-- ==== Sys2Proof/Word.lean ====
section
/-! DEFINITION. The bit-pattern types of the engine and its two data shapes that are read as patterns.

Widths are those of spec 00_scope.md R8: 32-bit scalar words, 16-bit vector lanes, 48-bit accumulator
lanes, 12-bit region addresses.  Bit 0 is the least significant bit (R9). -/

namespace Sys2Proof

/-- One byte of a memory region or of a vector register. -/
abbrev Byte := BitVec 8

/-- One lane of a vector register (R40): a raw 16-bit pattern. -/
abbrev Half := BitVec 16

/-- A scalar register, an instruction word or an effective address (R8: XLEN = 32). -/
abbrev Word := BitVec 32

/-- One lane of the accumulator (R42). -/
abbrev AccLane := BitVec 48

/-- An address inside one of the two 4 KiB regions (R71: "4 KiB ⇒ 12-bit address space"). -/
abbrev RegionAddr := BitVec 12

/-- A 5-bit register field; R111: every value names a register. -/
abbrev Reg := BitVec 5

/-- A 4-bit element field: the element selector of format V (R112) or a byte index (R104, R106). -/
abbrev Elem := BitVec 4

/-- The 128-bit contents of a vector register as its eight lanes, lane 0 most significant (R40). -/
abbrev VReg := Vector Half 8

end Sys2Proof
end

