-- ==== Sys2Proof/Config.lean ====
section
/-! DEFINITION. What one implementation fixes, and the free values of the spec's draws.

spec 00_scope.md R8 lists the implementation parameters.  The three two-valued ones (DELAY_SLOT,
RESERVED_VU, VMRG_CLEARS_VCO) form the structure `Config`; `State` carries one `Config` that nothing
writes (R52), so that a statement about every state is a statement about every choice of them
(assumption log 1).  The parameters without a value in the spec (RCP_ROM, RSQ_ROM, CYCLE_BITS) and the
three draws (INIT_MEM, COP0_READ, LWV_RESULT) are opaque constants: nothing can be proved of the value
they have, so a claim holds for every value. -/

namespace Sys2Proof

/-- The values of the parameter RESERVED_VU (R8, D8): what a reserved vector opcode does. -/
inductive ReservedVu where
  /-- each reserved opcode acts as VZERO (the spec's default) -/
  | vzero
  /-- each reserved opcode is a no-op -/
  | nop
  deriving DecidableEq, Repr

/-- The parameters of R8 that have two values.  `State.reset` takes the spec's defaults. -/
structure Config where
  /-- DELAY_SLOT (D1): a control transfer takes effect after the next instruction -/
  delaySlot : Bool
  /-- RESERVED_VU (D8) -/
  reservedVu : ReservedVu
  /-- VMRG_CLEARS_VCO (D28) -/
  vmrgClearsVco : Bool
  deriving DecidableEq, Repr

/-- The defaults the spec gives (R8): `true`, `VZERO`, `true`. -/
def Config.default : Config :=
  { delaySlot := true, reservedVu := .vzero, vmrgClearsVco := true }

/-- RCP_ROM (R342, D10): 512 entries of 16 bits, contents OPEN.  The candidate formula of R342 is "not
normative", so it is not used (assumption log 3). -/
opaque Config.rcpRom : BitVec 9 → Half

/-- RSQ_ROM (R342, D10): 512 entries of 16 bits, contents OPEN (assumption log 3). -/
opaque Config.rsqRom : BitVec 9 → Half

/-- By how much CYCLE_BITS exceeds 32, its least value (R8, D15; assumption log 4). -/
opaque Config.cycleBitsAbove32 : Nat

/-- CYCLE_BITS (R8: "OPEN, ≥ 32"). -/
def Config.cycleBits : Nat := 32 + Config.cycleBitsAbove32

/-- INIT_MEM (R54, R471, D14), instruction memory: the byte at an address no one has written since
creation.  Free (assumption log 2).  DESIGN CHOICE: one constant for all instances; the spec does not say whether
two created apart draw the same contents (assumption log 18). -/
opaque Config.initImem : RegionAddr → Byte

/-- INIT_MEM (R54, R471, D14), data memory.  Free, and one constant for all instances (assumption logs 2 and 18). -/
opaque Config.initDmem : RegionAddr → Byte

/-- COP0_READ (R222, D7): the value of the n-th draw of a run, when an MFC0 takes it.  Free
(assumption log 5). -/
opaque Config.cop0Read : Nat → Word

/-- LWV_RESULT (R380, D9): the value of the n-th draw of a run, when an LWV takes it.  Free
(assumption log 5). -/
opaque Config.lwvResult : Nat → BitVec 128

end Sys2Proof
end

