-- ==== Sys2Proof/Syntax.lean ====
section
/-! DEFINITION. The instructions: one constructor per row of spec/opcode_table.json, its operands the
fields the row names, in the order of the assembler syntax of R124.

Every operand is a bit pattern of the width its field has (R101-R106), so an operand out of its field's
range cannot be written (R111).  Fields that an instruction ignores (R121) are no operands, but for those
the table's row lists: the code of BREAK, the COP0 register of MFC0 and MTC0, the three vector fields of
VMACQ.  VRNDP and VRNDN carry bit 0 of the `vs` field, their shift selector (R105, R249). -/

namespace Sys2Proof

/-- The instruction set (R113-R119). -/
inductive Instr where
  -- Scalar register arithmetic, logic and comparison (40_scalar_alu.md)
  /-- ADD (R142) -/
  | add (rd rs rt : Reg)
  /-- ADDU (R143) -/
  | addu (rd rs rt : Reg)
  /-- SUB (R144) -/
  | sub (rd rs rt : Reg)
  /-- SUBU (R145) -/
  | subu (rd rs rt : Reg)
  /-- AND (R146) -/
  | and (rd rs rt : Reg)
  /-- OR (R147) -/
  | or (rd rs rt : Reg)
  /-- XOR (R148) -/
  | xor (rd rs rt : Reg)
  /-- NOR (R149) -/
  | nor (rd rs rt : Reg)
  /-- SLT (R150) -/
  | slt (rd rs rt : Reg)
  /-- SLTU (R151) -/
  | sltu (rd rs rt : Reg)
  -- Shifts (40_scalar_alu.md)
  /-- SLL (R152) -/
  | sll (rd rt : Reg) (sa : BitVec 5)
  /-- SRL (R153) -/
  | srl (rd rt : Reg) (sa : BitVec 5)
  /-- SRA (R154) -/
  | sra (rd rt : Reg) (sa : BitVec 5)
  /-- SLLV (R155) -/
  | sllv (rd rt rs : Reg)
  /-- SRLV (R156) -/
  | srlv (rd rt rs : Reg)
  /-- SRAV (R157) -/
  | srav (rd rt rs : Reg)
  -- Immediate forms (40_scalar_alu.md)
  /-- ADDI (R158) -/
  | addi (rt rs : Reg) (imm : BitVec 16)
  /-- ADDIU (R159) -/
  | addiu (rt rs : Reg) (imm : BitVec 16)
  /-- SLTI (R160) -/
  | slti (rt rs : Reg) (imm : BitVec 16)
  /-- SLTIU (R161) -/
  | sltiu (rt rs : Reg) (imm : BitVec 16)
  /-- ANDI (R162) -/
  | andi (rt rs : Reg) (imm : BitVec 16)
  /-- ORI (R163) -/
  | ori (rt rs : Reg) (imm : BitVec 16)
  /-- XORI (R164) -/
  | xori (rt rs : Reg) (imm : BitVec 16)
  /-- LUI (R165) -/
  | lui (rt : Reg) (imm : BitVec 16)
  -- Scalar loads and stores (42_scalar_loadstore.md)
  /-- LB (R203) -/
  | lb (rt : Reg) (imm : BitVec 16) (base : Reg)
  /-- LH (R204) -/
  | lh (rt : Reg) (imm : BitVec 16) (base : Reg)
  /-- LW (R205) -/
  | lw (rt : Reg) (imm : BitVec 16) (base : Reg)
  /-- LBU (R206) -/
  | lbu (rt : Reg) (imm : BitVec 16) (base : Reg)
  /-- LHU (R207) -/
  | lhu (rt : Reg) (imm : BitVec 16) (base : Reg)
  /-- LWU (R208) -/
  | lwu (rt : Reg) (imm : BitVec 16) (base : Reg)
  /-- SB (R209) -/
  | sb (rt : Reg) (imm : BitVec 16) (base : Reg)
  /-- SH (R210) -/
  | sh (rt : Reg) (imm : BitVec 16) (base : Reg)
  /-- SW (R211) -/
  | sw (rt : Reg) (imm : BitVec 16) (base : Reg)
  -- Jumps and branches (41_scalar_branch.md)
  /-- J (R185) -/
  | j (target : BitVec 26)
  /-- JAL (R186) -/
  | jal (target : BitVec 26)
  /-- JR (R187) -/
  | jr (rs : Reg)
  /-- JALR (R188) -/
  | jalr (rd rs : Reg)
  /-- BEQ (R189) -/
  | beq (rs rt : Reg) (imm : BitVec 16)
  /-- BNE (R190) -/
  | bne (rs rt : Reg) (imm : BitVec 16)
  /-- BLEZ (R191) -/
  | blez (rs : Reg) (imm : BitVec 16)
  /-- BGTZ (R192) -/
  | bgtz (rs : Reg) (imm : BitVec 16)
  /-- BLTZ (R193) -/
  | bltz (rs : Reg) (imm : BitVec 16)
  /-- BGEZ (R194) -/
  | bgez (rs : Reg) (imm : BitVec 16)
  /-- BLTZAL (R195) -/
  | bltzal (rs : Reg) (imm : BitVec 16)
  /-- BGEZAL (R196) -/
  | bgezal (rs : Reg) (imm : BitVec 16)
  -- BREAK and the coprocessor moves (43_scalar_cop_moves.md)
  /-- BREAK (R220) -/
  | brk (code : BitVec 20)
  /-- MFC0 (R222) -/
  | mfc0 (rt rd : Reg)
  /-- MTC0 (R223) -/
  | mtc0 (rt rd : Reg)
  /-- MFC2 (R226) -/
  | mfc2 (rt rd : Reg) (e : Elem)
  /-- MTC2 (R227) -/
  | mtc2 (rt rd : Reg) (e : Elem)
  /-- CFC2 (R224) -/
  | cfc2 (rt rd : Reg)
  /-- CTC2 (R225) -/
  | ctc2 (rt rd : Reg)
  -- Vector multiply and multiply-accumulate (44_vector_multiply.md)
  /-- VMULF (R242) -/
  | vmulf (vd vs vt : Reg) (e : Elem)
  /-- VMULU (R243) -/
  | vmulu (vd vs vt : Reg) (e : Elem)
  /-- VRNDP (R249) -/
  | vrndp (vd : Reg) (sh : BitVec 1) (vt : Reg) (e : Elem)
  /-- VMULQ (R244) -/
  | vmulq (vd vs vt : Reg) (e : Elem)
  /-- VMUDL (R245) -/
  | vmudl (vd vs vt : Reg) (e : Elem)
  /-- VMUDM (R246) -/
  | vmudm (vd vs vt : Reg) (e : Elem)
  /-- VMUDN (R247) -/
  | vmudn (vd vs vt : Reg) (e : Elem)
  /-- VMUDH (R248) -/
  | vmudh (vd vs vt : Reg) (e : Elem)
  /-- VMACF (R251) -/
  | vmacf (vd vs vt : Reg) (e : Elem)
  /-- VMACU (R252) -/
  | vmacu (vd vs vt : Reg) (e : Elem)
  /-- VRNDN (R250) -/
  | vrndn (vd : Reg) (sh : BitVec 1) (vt : Reg) (e : Elem)
  /-- VMACQ (R253) -/
  | vmacq (vd vs vt : Reg) (e : Elem)
  /-- VMADL (R254) -/
  | vmadl (vd vs vt : Reg) (e : Elem)
  /-- VMADM (R255) -/
  | vmadm (vd vs vt : Reg) (e : Elem)
  /-- VMADN (R256) -/
  | vmadn (vd vs vt : Reg) (e : Elem)
  /-- VMADH (R257) -/
  | vmadh (vd vs vt : Reg) (e : Elem)
  -- Vector add, subtract, accumulator read, logic (45_vector_add_logic.md)
  /-- VADD (R281) -/
  | vadd (vd vs vt : Reg) (e : Elem)
  /-- VSUB (R282) -/
  | vsub (vd vs vt : Reg) (e : Elem)
  /-- VABS (R283) -/
  | vabs (vd vs vt : Reg) (e : Elem)
  /-- VADDC (R284) -/
  | vaddc (vd vs vt : Reg) (e : Elem)
  /-- VSUBC (R285) -/
  | vsubc (vd vs vt : Reg) (e : Elem)
  /-- VSAR (R286) -/
  | vsar (vd : Reg) (e : Elem)
  /-- VAND (R287) -/
  | vand (vd vs vt : Reg) (e : Elem)
  /-- VNAND (R288) -/
  | vnand (vd vs vt : Reg) (e : Elem)
  /-- VOR (R289) -/
  | vor (vd vs vt : Reg) (e : Elem)
  /-- VNOR (R290) -/
  | vnor (vd vs vt : Reg) (e : Elem)
  /-- VXOR (R291) -/
  | vxor (vd vs vt : Reg) (e : Elem)
  /-- VNXOR (R292) -/
  | vnxor (vd vs vt : Reg) (e : Elem)
  -- Reserved vector opcodes (45_vector_add_logic.md R295)
  /-- VRSVD_12 (R295) -/
  | vrsvd12 (vd vs vt : Reg) (e : Elem)
  /-- VRSVD_16 (R295) -/
  | vrsvd16 (vd vs vt : Reg) (e : Elem)
  /-- VRSVD_17 (R295) -/
  | vrsvd17 (vd vs vt : Reg) (e : Elem)
  /-- VRSVD_18 (R295) -/
  | vrsvd18 (vd vs vt : Reg) (e : Elem)
  /-- VRSVD_19 (R295) -/
  | vrsvd19 (vd vs vt : Reg) (e : Elem)
  /-- VRSVD_1A (R295) -/
  | vrsvd1a (vd vs vt : Reg) (e : Elem)
  /-- VRSVD_1B (R295) -/
  | vrsvd1b (vd vs vt : Reg) (e : Elem)
  /-- VRSVD_1C (R295) -/
  | vrsvd1c (vd vs vt : Reg) (e : Elem)
  /-- VRSVD_1E (R295) -/
  | vrsvd1e (vd vs vt : Reg) (e : Elem)
  /-- VRSVD_1F (R295) -/
  | vrsvd1f (vd vs vt : Reg) (e : Elem)
  /-- VRSVD_2E (R295) -/
  | vrsvd2e (vd vs vt : Reg) (e : Elem)
  /-- VRSVD_2F (R295) -/
  | vrsvd2f (vd vs vt : Reg) (e : Elem)
  /-- VRSVD_38 (R295) -/
  | vrsvd38 (vd vs vt : Reg) (e : Elem)
  /-- VRSVD_39 (R295) -/
  | vrsvd39 (vd vs vt : Reg) (e : Elem)
  /-- VRSVD_3A (R295) -/
  | vrsvd3a (vd vs vt : Reg) (e : Elem)
  /-- VRSVD_3B (R295) -/
  | vrsvd3b (vd vs vt : Reg) (e : Elem)
  /-- VRSVD_3C (R295) -/
  | vrsvd3c (vd vs vt : Reg) (e : Elem)
  /-- VRSVD_3D (R295) -/
  | vrsvd3d (vd vs vt : Reg) (e : Elem)
  /-- VRSVD_3E (R295) -/
  | vrsvd3e (vd vs vt : Reg) (e : Elem)
  -- Vector compare, clip and merge (46_vector_compare_select.md)
  /-- VLT (R311) -/
  | vlt (vd vs vt : Reg) (e : Elem)
  /-- VEQ (R312) -/
  | veq (vd vs vt : Reg) (e : Elem)
  /-- VNE (R313) -/
  | vne (vd vs vt : Reg) (e : Elem)
  /-- VGE (R314) -/
  | vge (vd vs vt : Reg) (e : Elem)
  /-- VCL (R316) -/
  | vcl (vd vs vt : Reg) (e : Elem)
  /-- VCH (R315) -/
  | vch (vd vs vt : Reg) (e : Elem)
  /-- VCR (R317) -/
  | vcr (vd vs vt : Reg) (e : Elem)
  /-- VMRG (R318) -/
  | vmrg (vd vs vt : Reg) (e : Elem)
  -- Vector single-lane operations (47_vector_single_lane.md)
  /-- VRCP (R344) -/
  | vrcp (vd de vt : Reg) (e : Elem)
  /-- VRCPL (R345) -/
  | vrcpl (vd de vt : Reg) (e : Elem)
  /-- VRCPH (R346) -/
  | vrcph (vd de vt : Reg) (e : Elem)
  /-- VMOV (R351) -/
  | vmov (vd de vt : Reg) (e : Elem)
  /-- VRSQ (R347) -/
  | vrsq (vd de vt : Reg) (e : Elem)
  /-- VRSQL (R349) -/
  | vrsql (vd de vt : Reg) (e : Elem)
  /-- VRSQH (R350) -/
  | vrsqh (vd de vt : Reg) (e : Elem)
  /-- VNOP (R348) -/
  | vnop
  /-- VNULL (R348) -/
  | vnull
  -- Vector loads (48_vector_loadstore.md)
  /-- LBV (R372) -/
  | lbv (vt : Reg) (e : Elem) (offset : BitVec 7) (base : Reg)
  /-- LSV (R373) -/
  | lsv (vt : Reg) (e : Elem) (offset : BitVec 7) (base : Reg)
  /-- LLV (R373) -/
  | llv (vt : Reg) (e : Elem) (offset : BitVec 7) (base : Reg)
  /-- LDV (R373) -/
  | ldv (vt : Reg) (e : Elem) (offset : BitVec 7) (base : Reg)
  /-- LQV (R374) -/
  | lqv (vt : Reg) (e : Elem) (offset : BitVec 7) (base : Reg)
  /-- LRV (R375) -/
  | lrv (vt : Reg) (e : Elem) (offset : BitVec 7) (base : Reg)
  /-- LPV (R376) -/
  | lpv (vt : Reg) (e : Elem) (offset : BitVec 7) (base : Reg)
  /-- LUV (R377) -/
  | luv (vt : Reg) (e : Elem) (offset : BitVec 7) (base : Reg)
  /-- LHV (R378) -/
  | lhv (vt : Reg) (e : Elem) (offset : BitVec 7) (base : Reg)
  /-- LFV (R379) -/
  | lfv (vt : Reg) (e : Elem) (offset : BitVec 7) (base : Reg)
  /-- LWV (R380) -/
  | lwv (vt : Reg) (e : Elem) (offset : BitVec 7) (base : Reg)
  /-- LTV (R381) -/
  | ltv (vt : Reg) (e : Elem) (offset : BitVec 7) (base : Reg)
  -- Vector stores (48_vector_loadstore.md)
  /-- SBV (R382) -/
  | sbv (vt : Reg) (e : Elem) (offset : BitVec 7) (base : Reg)
  /-- SSV (R383) -/
  | ssv (vt : Reg) (e : Elem) (offset : BitVec 7) (base : Reg)
  /-- SLV (R383) -/
  | slv (vt : Reg) (e : Elem) (offset : BitVec 7) (base : Reg)
  /-- SDV (R383) -/
  | sdv (vt : Reg) (e : Elem) (offset : BitVec 7) (base : Reg)
  /-- SQV (R384) -/
  | sqv (vt : Reg) (e : Elem) (offset : BitVec 7) (base : Reg)
  /-- SRV (R385) -/
  | srv (vt : Reg) (e : Elem) (offset : BitVec 7) (base : Reg)
  /-- SPV (R386) -/
  | spv (vt : Reg) (e : Elem) (offset : BitVec 7) (base : Reg)
  /-- SUV (R387) -/
  | suv (vt : Reg) (e : Elem) (offset : BitVec 7) (base : Reg)
  /-- SHV (R388) -/
  | shv (vt : Reg) (e : Elem) (offset : BitVec 7) (base : Reg)
  /-- SFV (R389) -/
  | sfv (vt : Reg) (e : Elem) (offset : BitVec 7) (base : Reg)
  /-- SWV (R390) -/
  | swv (vt : Reg) (e : Elem) (offset : BitVec 7) (base : Reg)
  /-- STV (R391) -/
  | stv (vt : Reg) (e : Elem) (offset : BitVec 7) (base : Reg)
  deriving DecidableEq, Repr

end Sys2Proof
end

