-- ==== Sys2Proof/WellFormed.lean ====
section
/-! DEFINITION. What a well-formed instruction and a well-formed program are.

An operand cannot be out of its field's range (Syntax.lean), and every value of every field is a form the
spec defines, so a single instruction is always well formed (R111, R121).  What the spec does demand is of
a program: that it fits in IMEM (R51) and that no control transfer stands in the delay slot of another
(R183, R474). -/

namespace Sys2Proof

/-- The control-transfer instructions (41_scalar_branch.md, R180). -/
def Instr.isCti : Instr → Bool
  | .j _ | .jal _ | .jr _ | .jalr _ _ | .beq _ _ _ | .bne _ _ _ | .blez _ _ | .bgtz _ _
  | .bltz _ _ | .bgez _ _ | .bltzal _ _ | .bgezal _ _ => true
  | _ => false

/-- R474: "A control transfer must not be placed in a delay slot": no two control transfers stand one
after the other.  (Under DELAY_SLOT = `false` the spec does not ask for it.) -/
def slotsFree : List Instr → Bool
  | i :: j :: rest => !(i.isCti && j.isCti) && slotsFree (j :: rest)
  | _ => true

/-- R51, R100: a program of one-word instructions fits in the 4096 bytes of IMEM. -/
def fitsImem (p : List Instr) : Bool := p.length ≤ 1024

/-- A program the engine defines on every straight path through it (R183, R474, R51). -/
def wellFormedProgram (p : List Instr) : Bool := fitsImem p && slotsFree p

end Sys2Proof
end

