-- ==== Sys2Proof/Decode.lean ====
section
/-! DEFINITION. The decoder, total on every word and on every run of bytes, and the encoder, both from the
encoding tables of spec 30_encoding.md; the opcode table itself as masks and patterns.

A word that no rule of R113-R119 maps to an instruction is ILLEGAL (R120).  The decoder says so by a
`DecodeReject` that also names the sub-table in which the word was not found; the machine treats all of
them alike, as the no-op of R120. -/

namespace Sys2Proof

/-- Why a run of bytes is no instruction.  All but `truncated` are the verdict ILLEGAL of R120. -/
inductive DecodeReject where
  /-- ILLEGAL: a primary opcode R113 does not list -/
  | illegalPrimary
  /-- ILLEGAL: a SPECIAL funct R114 does not list -/
  | illegalSpecialFunct
  /-- ILLEGAL: a REGIMM operation R115 does not list -/
  | illegalRegimm
  /-- ILLEGAL: a COP0 move kind R116 does not list -/
  | illegalCop0Move
  /-- ILLEGAL: a COP2 move kind R117 does not list -/
  | illegalCop2Move
  /-- ILLEGAL: an LWC2 vop R118 does not list -/
  | illegalVectorLoad
  /-- ILLEGAL: an SWC2 vop R119 does not list -/
  | illegalVectorStore
  /-- fewer than four bytes: no instruction word at all (R100) -/
  | truncated
  deriving DecidableEq, Repr

/-! ### The fields of an instruction word (R101-R106) -/

/-- bits 31:26, the primary opcode -/
def opField (w : Word) : BitVec 6 := w.extractLsb' 26 6
/-- bits 25:21: `rs`, the base register, or the move kind -/
def rsField (w : Word) : Reg := w.extractLsb' 21 5
/-- bits 20:16: `rt` or `vt` -/
def rtField (w : Word) : Reg := w.extractLsb' 16 5
/-- bits 15:11: `rd`, `vs`, `de` or `vop` -/
def rdField (w : Word) : Reg := w.extractLsb' 11 5
/-- bits 10:6: `sa` or `vd` -/
def saField (w : Word) : Reg := w.extractLsb' 6 5
/-- bits 5:0 -/
def functField (w : Word) : BitVec 6 := w.extractLsb' 0 6
/-- bits 15:0 -/
def immField (w : Word) : BitVec 16 := w.extractLsb' 0 16
/-- bits 25:0 -/
def targetField (w : Word) : BitVec 26 := w.extractLsb' 0 26
/-- bits 25:6, the code of BREAK -/
def codeField (w : Word) : BitVec 20 := w.extractLsb' 6 20
/-- bits 24:21, the element selector of format V -/
def elemField (w : Word) : Elem := w.extractLsb' 21 4
/-- bits 10:7, the byte index of formats M and VM -/
def byteElemField (w : Word) : Elem := w.extractLsb' 7 4
/-- bits 6:0, the offset of format VM -/
def offsetField (w : Word) : BitVec 7 := w.extractLsb' 0 7
/-- bit 11, the shift selector of VRNDP and VRNDN (R249) -/
def shField (w : Word) : BitVec 1 := w.extractLsb' 11 1

/-! ### The formats (R101-R106): a word as its fields, the most significant first -/

/-- Format R (R101). -/
def formatR (op : BitVec 6) (rs rt rd sa : BitVec 5) (funct : BitVec 6) : Word :=
  op ++ rs ++ rt ++ rd ++ sa ++ funct
/-- Format R of BREAK, whose bits 25:6 are its code field (R220). -/
def formatBreak (code : BitVec 20) : Word := 0x00#6 ++ code ++ 0x0D#6
/-- Format I, and format REGIMM with the operation in the `rt` field (R102). -/
def formatI (op : BitVec 6) (rs rt : BitVec 5) (imm : BitVec 16) : Word := op ++ rs ++ rt ++ imm
/-- Format J (R103). -/
def formatJ (op : BitVec 6) (target : BitVec 26) : Word := op ++ target
/-- Format M (R104), its ignored bits 6:0 given last. -/
def formatMWith (op : BitVec 6) (mv rt rd : BitVec 5) (e : BitVec 4) (ignored : BitVec 7) : Word :=
  op ++ mv ++ rt ++ rd ++ e ++ ignored
/-- Format M (R104) with its ignored bits zero. -/
def formatM (op : BitVec 6) (mv rt rd : BitVec 5) (e : BitVec 4) : Word := formatMWith op mv rt rd e 0
/-- Format V (R105). -/
def formatV (e : BitVec 4) (vt vs vd : BitVec 5) (funct : BitVec 6) : Word :=
  0x12#6 ++ 1#1 ++ e ++ vt ++ vs ++ vd ++ funct
/-- Format VM (R106). -/
def formatVM (op : BitVec 6) (base vt vop : BitVec 5) (e : BitVec 4) (offset : BitVec 7) : Word :=
  op ++ base ++ vt ++ vop ++ e ++ offset

/-- One row of spec/opcode_table.json: a word belongs to it when its bits under the mask are the pattern. -/
structure OpcodeRow where
  mask : Word
  pattern : Word
  deriving DecidableEq, Repr

/-- A word belongs to a row (R123). -/
def OpcodeRow.covers (r : OpcodeRow) (w : Word) : Bool := w &&& r.mask == r.pattern

/-! ### Decoding -/

/-- SPECIAL (R114), decoded by `funct`. -/
def decodeSpecial (w : Word) : Except DecodeReject Instr :=
  match functField w with
  | 0x00#6 => .ok (.sll (rdField w) (rtField w) (saField w))
  | 0x02#6 => .ok (.srl (rdField w) (rtField w) (saField w))
  | 0x03#6 => .ok (.sra (rdField w) (rtField w) (saField w))
  | 0x04#6 => .ok (.sllv (rdField w) (rtField w) (rsField w))
  | 0x06#6 => .ok (.srlv (rdField w) (rtField w) (rsField w))
  | 0x07#6 => .ok (.srav (rdField w) (rtField w) (rsField w))
  | 0x08#6 => .ok (.jr (rsField w))
  | 0x09#6 => .ok (.jalr (rdField w) (rsField w))
  | 0x0D#6 => .ok (.brk (codeField w))
  | 0x20#6 => .ok (.add (rdField w) (rsField w) (rtField w))
  | 0x21#6 => .ok (.addu (rdField w) (rsField w) (rtField w))
  | 0x22#6 => .ok (.sub (rdField w) (rsField w) (rtField w))
  | 0x23#6 => .ok (.subu (rdField w) (rsField w) (rtField w))
  | 0x24#6 => .ok (.and (rdField w) (rsField w) (rtField w))
  | 0x25#6 => .ok (.or (rdField w) (rsField w) (rtField w))
  | 0x26#6 => .ok (.xor (rdField w) (rsField w) (rtField w))
  | 0x27#6 => .ok (.nor (rdField w) (rsField w) (rtField w))
  | 0x2A#6 => .ok (.slt (rdField w) (rsField w) (rtField w))
  | 0x2B#6 => .ok (.sltu (rdField w) (rsField w) (rtField w))
  | _ => .error .illegalSpecialFunct

/-- REGIMM (R115), decoded by the `rt` field. -/
def decodeRegimm (w : Word) : Except DecodeReject Instr :=
  match rtField w with
  | 0x00#5 => .ok (.bltz (rsField w) (immField w))
  | 0x01#5 => .ok (.bgez (rsField w) (immField w))
  | 0x10#5 => .ok (.bltzal (rsField w) (immField w))
  | 0x11#5 => .ok (.bgezal (rsField w) (immField w))
  | _ => .error .illegalRegimm

/-- COP0 (R116), decoded by bits 25:21. -/
def decodeCop0 (w : Word) : Except DecodeReject Instr :=
  match rsField w with
  | 0x00#5 => .ok (.mfc0 (rtField w) (rdField w))
  | 0x04#5 => .ok (.mtc0 (rtField w) (rdField w))
  | _ => .error .illegalCop0Move

/-- COP2 with bit 25 clear (R117): the moves, decoded by bits 25:21. -/
def decodeCop2Move (w : Word) : Except DecodeReject Instr :=
  match rsField w with
  | 0x00#5 => .ok (.mfc2 (rtField w) (rdField w) (byteElemField w))
  | 0x02#5 => .ok (.cfc2 (rtField w) (rdField w))
  | 0x04#5 => .ok (.mtc2 (rtField w) (rdField w) (byteElemField w))
  | 0x06#5 => .ok (.ctc2 (rtField w) (rdField w))
  | _ => .error .illegalCop2Move

/-- COP2 with bit 25 set (R117): the vector computational instructions, decoded by `funct`.  Every
`funct` is defined. -/
def decodeVector (w : Word) : Instr :=
  match functField w with
  | 0x00#6 => .vmulf (saField w) (rdField w) (rtField w) (elemField w)
  | 0x01#6 => .vmulu (saField w) (rdField w) (rtField w) (elemField w)
  | 0x02#6 => .vrndp (saField w) (shField w) (rtField w) (elemField w)
  | 0x03#6 => .vmulq (saField w) (rdField w) (rtField w) (elemField w)
  | 0x04#6 => .vmudl (saField w) (rdField w) (rtField w) (elemField w)
  | 0x05#6 => .vmudm (saField w) (rdField w) (rtField w) (elemField w)
  | 0x06#6 => .vmudn (saField w) (rdField w) (rtField w) (elemField w)
  | 0x07#6 => .vmudh (saField w) (rdField w) (rtField w) (elemField w)
  | 0x08#6 => .vmacf (saField w) (rdField w) (rtField w) (elemField w)
  | 0x09#6 => .vmacu (saField w) (rdField w) (rtField w) (elemField w)
  | 0x0A#6 => .vrndn (saField w) (shField w) (rtField w) (elemField w)
  | 0x0B#6 => .vmacq (saField w) (rdField w) (rtField w) (elemField w)
  | 0x0C#6 => .vmadl (saField w) (rdField w) (rtField w) (elemField w)
  | 0x0D#6 => .vmadm (saField w) (rdField w) (rtField w) (elemField w)
  | 0x0E#6 => .vmadn (saField w) (rdField w) (rtField w) (elemField w)
  | 0x0F#6 => .vmadh (saField w) (rdField w) (rtField w) (elemField w)
  | 0x10#6 => .vadd (saField w) (rdField w) (rtField w) (elemField w)
  | 0x11#6 => .vsub (saField w) (rdField w) (rtField w) (elemField w)
  | 0x12#6 => .vrsvd12 (saField w) (rdField w) (rtField w) (elemField w)
  | 0x13#6 => .vabs (saField w) (rdField w) (rtField w) (elemField w)
  | 0x14#6 => .vaddc (saField w) (rdField w) (rtField w) (elemField w)
  | 0x15#6 => .vsubc (saField w) (rdField w) (rtField w) (elemField w)
  | 0x16#6 => .vrsvd16 (saField w) (rdField w) (rtField w) (elemField w)
  | 0x17#6 => .vrsvd17 (saField w) (rdField w) (rtField w) (elemField w)
  | 0x18#6 => .vrsvd18 (saField w) (rdField w) (rtField w) (elemField w)
  | 0x19#6 => .vrsvd19 (saField w) (rdField w) (rtField w) (elemField w)
  | 0x1A#6 => .vrsvd1a (saField w) (rdField w) (rtField w) (elemField w)
  | 0x1B#6 => .vrsvd1b (saField w) (rdField w) (rtField w) (elemField w)
  | 0x1C#6 => .vrsvd1c (saField w) (rdField w) (rtField w) (elemField w)
  | 0x1D#6 => .vsar (saField w) (elemField w)
  | 0x1E#6 => .vrsvd1e (saField w) (rdField w) (rtField w) (elemField w)
  | 0x1F#6 => .vrsvd1f (saField w) (rdField w) (rtField w) (elemField w)
  | 0x20#6 => .vlt (saField w) (rdField w) (rtField w) (elemField w)
  | 0x21#6 => .veq (saField w) (rdField w) (rtField w) (elemField w)
  | 0x22#6 => .vne (saField w) (rdField w) (rtField w) (elemField w)
  | 0x23#6 => .vge (saField w) (rdField w) (rtField w) (elemField w)
  | 0x24#6 => .vcl (saField w) (rdField w) (rtField w) (elemField w)
  | 0x25#6 => .vch (saField w) (rdField w) (rtField w) (elemField w)
  | 0x26#6 => .vcr (saField w) (rdField w) (rtField w) (elemField w)
  | 0x27#6 => .vmrg (saField w) (rdField w) (rtField w) (elemField w)
  | 0x28#6 => .vand (saField w) (rdField w) (rtField w) (elemField w)
  | 0x29#6 => .vnand (saField w) (rdField w) (rtField w) (elemField w)
  | 0x2A#6 => .vor (saField w) (rdField w) (rtField w) (elemField w)
  | 0x2B#6 => .vnor (saField w) (rdField w) (rtField w) (elemField w)
  | 0x2C#6 => .vxor (saField w) (rdField w) (rtField w) (elemField w)
  | 0x2D#6 => .vnxor (saField w) (rdField w) (rtField w) (elemField w)
  | 0x2E#6 => .vrsvd2e (saField w) (rdField w) (rtField w) (elemField w)
  | 0x2F#6 => .vrsvd2f (saField w) (rdField w) (rtField w) (elemField w)
  | 0x30#6 => .vrcp (saField w) (rdField w) (rtField w) (elemField w)
  | 0x31#6 => .vrcpl (saField w) (rdField w) (rtField w) (elemField w)
  | 0x32#6 => .vrcph (saField w) (rdField w) (rtField w) (elemField w)
  | 0x33#6 => .vmov (saField w) (rdField w) (rtField w) (elemField w)
  | 0x34#6 => .vrsq (saField w) (rdField w) (rtField w) (elemField w)
  | 0x35#6 => .vrsql (saField w) (rdField w) (rtField w) (elemField w)
  | 0x36#6 => .vrsqh (saField w) (rdField w) (rtField w) (elemField w)
  | 0x37#6 => .vnop
  | 0x38#6 => .vrsvd38 (saField w) (rdField w) (rtField w) (elemField w)
  | 0x39#6 => .vrsvd39 (saField w) (rdField w) (rtField w) (elemField w)
  | 0x3A#6 => .vrsvd3a (saField w) (rdField w) (rtField w) (elemField w)
  | 0x3B#6 => .vrsvd3b (saField w) (rdField w) (rtField w) (elemField w)
  | 0x3C#6 => .vrsvd3c (saField w) (rdField w) (rtField w) (elemField w)
  | 0x3D#6 => .vrsvd3d (saField w) (rdField w) (rtField w) (elemField w)
  | 0x3E#6 => .vrsvd3e (saField w) (rdField w) (rtField w) (elemField w)
  -- only 0x3F is left
  | _ => .vnull

/-- LWC2 (R118), decoded by `vop`. -/
def decodeVectorLoad (w : Word) : Except DecodeReject Instr :=
  match rdField w with
  | 0x00#5 => .ok (.lbv (rtField w) (byteElemField w) (offsetField w) (rsField w))
  | 0x01#5 => .ok (.lsv (rtField w) (byteElemField w) (offsetField w) (rsField w))
  | 0x02#5 => .ok (.llv (rtField w) (byteElemField w) (offsetField w) (rsField w))
  | 0x03#5 => .ok (.ldv (rtField w) (byteElemField w) (offsetField w) (rsField w))
  | 0x04#5 => .ok (.lqv (rtField w) (byteElemField w) (offsetField w) (rsField w))
  | 0x05#5 => .ok (.lrv (rtField w) (byteElemField w) (offsetField w) (rsField w))
  | 0x06#5 => .ok (.lpv (rtField w) (byteElemField w) (offsetField w) (rsField w))
  | 0x07#5 => .ok (.luv (rtField w) (byteElemField w) (offsetField w) (rsField w))
  | 0x08#5 => .ok (.lhv (rtField w) (byteElemField w) (offsetField w) (rsField w))
  | 0x09#5 => .ok (.lfv (rtField w) (byteElemField w) (offsetField w) (rsField w))
  | 0x0A#5 => .ok (.lwv (rtField w) (byteElemField w) (offsetField w) (rsField w))
  | 0x0B#5 => .ok (.ltv (rtField w) (byteElemField w) (offsetField w) (rsField w))
  | _ => .error .illegalVectorLoad

/-- SWC2 (R119), decoded by `vop`. -/
def decodeVectorStore (w : Word) : Except DecodeReject Instr :=
  match rdField w with
  | 0x00#5 => .ok (.sbv (rtField w) (byteElemField w) (offsetField w) (rsField w))
  | 0x01#5 => .ok (.ssv (rtField w) (byteElemField w) (offsetField w) (rsField w))
  | 0x02#5 => .ok (.slv (rtField w) (byteElemField w) (offsetField w) (rsField w))
  | 0x03#5 => .ok (.sdv (rtField w) (byteElemField w) (offsetField w) (rsField w))
  | 0x04#5 => .ok (.sqv (rtField w) (byteElemField w) (offsetField w) (rsField w))
  | 0x05#5 => .ok (.srv (rtField w) (byteElemField w) (offsetField w) (rsField w))
  | 0x06#5 => .ok (.spv (rtField w) (byteElemField w) (offsetField w) (rsField w))
  | 0x07#5 => .ok (.suv (rtField w) (byteElemField w) (offsetField w) (rsField w))
  | 0x08#5 => .ok (.shv (rtField w) (byteElemField w) (offsetField w) (rsField w))
  | 0x09#5 => .ok (.sfv (rtField w) (byteElemField w) (offsetField w) (rsField w))
  | 0x0A#5 => .ok (.swv (rtField w) (byteElemField w) (offsetField w) (rsField w))
  | 0x0B#5 => .ok (.stv (rtField w) (byteElemField w) (offsetField w) (rsField w))
  | _ => .error .illegalVectorStore

/-- The decoder (R113, in the order of tests R123 gives): total on every word. -/
def decode (w : Word) : Except DecodeReject Instr :=
  match opField w with
  | 0x00#6 => decodeSpecial w
  | 0x01#6 => decodeRegimm w
  | 0x02#6 => .ok (.j (targetField w))
  | 0x03#6 => .ok (.jal (targetField w))
  | 0x04#6 => .ok (.beq (rsField w) (rtField w) (immField w))
  | 0x05#6 => .ok (.bne (rsField w) (rtField w) (immField w))
  | 0x06#6 => .ok (.blez (rsField w) (immField w))
  | 0x07#6 => .ok (.bgtz (rsField w) (immField w))
  | 0x08#6 => .ok (.addi (rtField w) (rsField w) (immField w))
  | 0x09#6 => .ok (.addiu (rtField w) (rsField w) (immField w))
  | 0x0A#6 => .ok (.slti (rtField w) (rsField w) (immField w))
  | 0x0B#6 => .ok (.sltiu (rtField w) (rsField w) (immField w))
  | 0x0C#6 => .ok (.andi (rtField w) (rsField w) (immField w))
  | 0x0D#6 => .ok (.ori (rtField w) (rsField w) (immField w))
  | 0x0E#6 => .ok (.xori (rtField w) (rsField w) (immField w))
  | 0x0F#6 => .ok (.lui (rtField w) (immField w))
  | 0x10#6 => decodeCop0 w
  | 0x12#6 => if w.getLsbD 25 then .ok (decodeVector w) else decodeCop2Move w
  | 0x20#6 => .ok (.lb (rtField w) (immField w) (rsField w))
  | 0x21#6 => .ok (.lh (rtField w) (immField w) (rsField w))
  | 0x23#6 => .ok (.lw (rtField w) (immField w) (rsField w))
  | 0x24#6 => .ok (.lbu (rtField w) (immField w) (rsField w))
  | 0x25#6 => .ok (.lhu (rtField w) (immField w) (rsField w))
  | 0x27#6 => .ok (.lwu (rtField w) (immField w) (rsField w))
  | 0x28#6 => .ok (.sb (rtField w) (immField w) (rsField w))
  | 0x29#6 => .ok (.sh (rtField w) (immField w) (rsField w))
  | 0x2B#6 => .ok (.sw (rtField w) (immField w) (rsField w))
  | 0x32#6 => decodeVectorLoad w
  | 0x3A#6 => decodeVectorStore w
  | _ => .error .illegalPrimary

/-- The word of an instruction (R101-R106, R113-R119), each field it ignores zero. -/
def encode : Instr → Word
  -- Scalar register arithmetic, logic and comparison (40_scalar_alu.md)
  | .add rd rs rt => formatR 0x00 rs rt rd 0 0x20
  | .addu rd rs rt => formatR 0x00 rs rt rd 0 0x21
  | .sub rd rs rt => formatR 0x00 rs rt rd 0 0x22
  | .subu rd rs rt => formatR 0x00 rs rt rd 0 0x23
  | .and rd rs rt => formatR 0x00 rs rt rd 0 0x24
  | .or rd rs rt => formatR 0x00 rs rt rd 0 0x25
  | .xor rd rs rt => formatR 0x00 rs rt rd 0 0x26
  | .nor rd rs rt => formatR 0x00 rs rt rd 0 0x27
  | .slt rd rs rt => formatR 0x00 rs rt rd 0 0x2A
  | .sltu rd rs rt => formatR 0x00 rs rt rd 0 0x2B
  -- Shifts (40_scalar_alu.md)
  | .sll rd rt sa => formatR 0x00 0 rt rd sa 0x00
  | .srl rd rt sa => formatR 0x00 0 rt rd sa 0x02
  | .sra rd rt sa => formatR 0x00 0 rt rd sa 0x03
  | .sllv rd rt rs => formatR 0x00 rs rt rd 0 0x04
  | .srlv rd rt rs => formatR 0x00 rs rt rd 0 0x06
  | .srav rd rt rs => formatR 0x00 rs rt rd 0 0x07
  -- Immediate forms (40_scalar_alu.md)
  | .addi rt rs imm => formatI 0x08 rs rt imm
  | .addiu rt rs imm => formatI 0x09 rs rt imm
  | .slti rt rs imm => formatI 0x0A rs rt imm
  | .sltiu rt rs imm => formatI 0x0B rs rt imm
  | .andi rt rs imm => formatI 0x0C rs rt imm
  | .ori rt rs imm => formatI 0x0D rs rt imm
  | .xori rt rs imm => formatI 0x0E rs rt imm
  | .lui rt imm => formatI 0x0F 0 rt imm
  -- Scalar loads and stores (42_scalar_loadstore.md)
  | .lb rt imm base => formatI 0x20 base rt imm
  | .lh rt imm base => formatI 0x21 base rt imm
  | .lw rt imm base => formatI 0x23 base rt imm
  | .lbu rt imm base => formatI 0x24 base rt imm
  | .lhu rt imm base => formatI 0x25 base rt imm
  | .lwu rt imm base => formatI 0x27 base rt imm
  | .sb rt imm base => formatI 0x28 base rt imm
  | .sh rt imm base => formatI 0x29 base rt imm
  | .sw rt imm base => formatI 0x2B base rt imm
  -- Jumps and branches (41_scalar_branch.md)
  | .j target => formatJ 0x02 target
  | .jal target => formatJ 0x03 target
  | .jr rs => formatR 0x00 rs 0 0 0 0x08
  | .jalr rd rs => formatR 0x00 rs 0 rd 0 0x09
  | .beq rs rt imm => formatI 0x04 rs rt imm
  | .bne rs rt imm => formatI 0x05 rs rt imm
  | .blez rs imm => formatI 0x06 rs 0 imm
  | .bgtz rs imm => formatI 0x07 rs 0 imm
  | .bltz rs imm => formatI 0x01 rs 0x00 imm
  | .bgez rs imm => formatI 0x01 rs 0x01 imm
  | .bltzal rs imm => formatI 0x01 rs 0x10 imm
  | .bgezal rs imm => formatI 0x01 rs 0x11 imm
  -- BREAK and the coprocessor moves (43_scalar_cop_moves.md)
  | .brk code => formatBreak code
  | .mfc0 rt rd => formatM 0x10 0x00 rt rd 0
  | .mtc0 rt rd => formatM 0x10 0x04 rt rd 0
  | .mfc2 rt rd e => formatM 0x12 0x00 rt rd e
  | .mtc2 rt rd e => formatM 0x12 0x04 rt rd e
  | .cfc2 rt rd => formatM 0x12 0x02 rt rd 0
  | .ctc2 rt rd => formatM 0x12 0x06 rt rd 0
  -- Vector multiply and multiply-accumulate (44_vector_multiply.md)
  | .vmulf vd vs vt e => formatV e vt vs vd 0x00
  | .vmulu vd vs vt e => formatV e vt vs vd 0x01
  | .vrndp vd sh vt e => formatV e vt (sh.setWidth 5) vd 0x02
  | .vmulq vd vs vt e => formatV e vt vs vd 0x03
  | .vmudl vd vs vt e => formatV e vt vs vd 0x04
  | .vmudm vd vs vt e => formatV e vt vs vd 0x05
  | .vmudn vd vs vt e => formatV e vt vs vd 0x06
  | .vmudh vd vs vt e => formatV e vt vs vd 0x07
  | .vmacf vd vs vt e => formatV e vt vs vd 0x08
  | .vmacu vd vs vt e => formatV e vt vs vd 0x09
  | .vrndn vd sh vt e => formatV e vt (sh.setWidth 5) vd 0x0A
  | .vmacq vd vs vt e => formatV e vt vs vd 0x0B
  | .vmadl vd vs vt e => formatV e vt vs vd 0x0C
  | .vmadm vd vs vt e => formatV e vt vs vd 0x0D
  | .vmadn vd vs vt e => formatV e vt vs vd 0x0E
  | .vmadh vd vs vt e => formatV e vt vs vd 0x0F
  -- Vector add, subtract, accumulator read, logic (45_vector_add_logic.md)
  | .vadd vd vs vt e => formatV e vt vs vd 0x10
  | .vsub vd vs vt e => formatV e vt vs vd 0x11
  | .vabs vd vs vt e => formatV e vt vs vd 0x13
  | .vaddc vd vs vt e => formatV e vt vs vd 0x14
  | .vsubc vd vs vt e => formatV e vt vs vd 0x15
  | .vsar vd e => formatV e 0 0 vd 0x1D
  | .vand vd vs vt e => formatV e vt vs vd 0x28
  | .vnand vd vs vt e => formatV e vt vs vd 0x29
  | .vor vd vs vt e => formatV e vt vs vd 0x2A
  | .vnor vd vs vt e => formatV e vt vs vd 0x2B
  | .vxor vd vs vt e => formatV e vt vs vd 0x2C
  | .vnxor vd vs vt e => formatV e vt vs vd 0x2D
  -- Reserved vector opcodes (45_vector_add_logic.md R295)
  | .vrsvd12 vd vs vt e => formatV e vt vs vd 0x12
  | .vrsvd16 vd vs vt e => formatV e vt vs vd 0x16
  | .vrsvd17 vd vs vt e => formatV e vt vs vd 0x17
  | .vrsvd18 vd vs vt e => formatV e vt vs vd 0x18
  | .vrsvd19 vd vs vt e => formatV e vt vs vd 0x19
  | .vrsvd1a vd vs vt e => formatV e vt vs vd 0x1A
  | .vrsvd1b vd vs vt e => formatV e vt vs vd 0x1B
  | .vrsvd1c vd vs vt e => formatV e vt vs vd 0x1C
  | .vrsvd1e vd vs vt e => formatV e vt vs vd 0x1E
  | .vrsvd1f vd vs vt e => formatV e vt vs vd 0x1F
  | .vrsvd2e vd vs vt e => formatV e vt vs vd 0x2E
  | .vrsvd2f vd vs vt e => formatV e vt vs vd 0x2F
  | .vrsvd38 vd vs vt e => formatV e vt vs vd 0x38
  | .vrsvd39 vd vs vt e => formatV e vt vs vd 0x39
  | .vrsvd3a vd vs vt e => formatV e vt vs vd 0x3A
  | .vrsvd3b vd vs vt e => formatV e vt vs vd 0x3B
  | .vrsvd3c vd vs vt e => formatV e vt vs vd 0x3C
  | .vrsvd3d vd vs vt e => formatV e vt vs vd 0x3D
  | .vrsvd3e vd vs vt e => formatV e vt vs vd 0x3E
  -- Vector compare, clip and merge (46_vector_compare_select.md)
  | .vlt vd vs vt e => formatV e vt vs vd 0x20
  | .veq vd vs vt e => formatV e vt vs vd 0x21
  | .vne vd vs vt e => formatV e vt vs vd 0x22
  | .vge vd vs vt e => formatV e vt vs vd 0x23
  | .vcl vd vs vt e => formatV e vt vs vd 0x24
  | .vch vd vs vt e => formatV e vt vs vd 0x25
  | .vcr vd vs vt e => formatV e vt vs vd 0x26
  | .vmrg vd vs vt e => formatV e vt vs vd 0x27
  -- Vector single-lane operations (47_vector_single_lane.md)
  | .vrcp vd de vt e => formatV e vt de vd 0x30
  | .vrcpl vd de vt e => formatV e vt de vd 0x31
  | .vrcph vd de vt e => formatV e vt de vd 0x32
  | .vmov vd de vt e => formatV e vt de vd 0x33
  | .vrsq vd de vt e => formatV e vt de vd 0x34
  | .vrsql vd de vt e => formatV e vt de vd 0x35
  | .vrsqh vd de vt e => formatV e vt de vd 0x36
  | .vnop => formatV 0 0 0 0 0x37
  | .vnull => formatV 0 0 0 0 0x3F
  -- Vector loads (48_vector_loadstore.md)
  | .lbv vt e offset base => formatVM 0x32 base vt 0x00 e offset
  | .lsv vt e offset base => formatVM 0x32 base vt 0x01 e offset
  | .llv vt e offset base => formatVM 0x32 base vt 0x02 e offset
  | .ldv vt e offset base => formatVM 0x32 base vt 0x03 e offset
  | .lqv vt e offset base => formatVM 0x32 base vt 0x04 e offset
  | .lrv vt e offset base => formatVM 0x32 base vt 0x05 e offset
  | .lpv vt e offset base => formatVM 0x32 base vt 0x06 e offset
  | .luv vt e offset base => formatVM 0x32 base vt 0x07 e offset
  | .lhv vt e offset base => formatVM 0x32 base vt 0x08 e offset
  | .lfv vt e offset base => formatVM 0x32 base vt 0x09 e offset
  | .lwv vt e offset base => formatVM 0x32 base vt 0x0A e offset
  | .ltv vt e offset base => formatVM 0x32 base vt 0x0B e offset
  -- Vector stores (48_vector_loadstore.md)
  | .sbv vt e offset base => formatVM 0x3A base vt 0x00 e offset
  | .ssv vt e offset base => formatVM 0x3A base vt 0x01 e offset
  | .slv vt e offset base => formatVM 0x3A base vt 0x02 e offset
  | .sdv vt e offset base => formatVM 0x3A base vt 0x03 e offset
  | .sqv vt e offset base => formatVM 0x3A base vt 0x04 e offset
  | .srv vt e offset base => formatVM 0x3A base vt 0x05 e offset
  | .spv vt e offset base => formatVM 0x3A base vt 0x06 e offset
  | .suv vt e offset base => formatVM 0x3A base vt 0x07 e offset
  | .shv vt e offset base => formatVM 0x3A base vt 0x08 e offset
  | .sfv vt e offset base => formatVM 0x3A base vt 0x09 e offset
  | .swv vt e offset base => formatVM 0x3A base vt 0x0A e offset
  | .stv vt e offset base => formatVM 0x3A base vt 0x0B e offset

/-- Scalar register arithmetic, logic and comparison (40_scalar_alu.md) -/
def rowsScalarRegister : List OpcodeRow :=
  [⟨0xFC00003F, 0x00000020⟩ /- ADD -/,
   ⟨0xFC00003F, 0x00000021⟩ /- ADDU -/,
   ⟨0xFC00003F, 0x00000022⟩ /- SUB -/,
   ⟨0xFC00003F, 0x00000023⟩ /- SUBU -/,
   ⟨0xFC00003F, 0x00000024⟩ /- AND -/,
   ⟨0xFC00003F, 0x00000025⟩ /- OR -/,
   ⟨0xFC00003F, 0x00000026⟩ /- XOR -/,
   ⟨0xFC00003F, 0x00000027⟩ /- NOR -/,
   ⟨0xFC00003F, 0x0000002A⟩ /- SLT -/,
   ⟨0xFC00003F, 0x0000002B⟩ /- SLTU -/]

/-- Shifts (40_scalar_alu.md) -/
def rowsShift : List OpcodeRow :=
  [⟨0xFC00003F, 0x00000000⟩ /- SLL -/,
   ⟨0xFC00003F, 0x00000002⟩ /- SRL -/,
   ⟨0xFC00003F, 0x00000003⟩ /- SRA -/,
   ⟨0xFC00003F, 0x00000004⟩ /- SLLV -/,
   ⟨0xFC00003F, 0x00000006⟩ /- SRLV -/,
   ⟨0xFC00003F, 0x00000007⟩ /- SRAV -/]

/-- Immediate forms (40_scalar_alu.md) -/
def rowsImmediate : List OpcodeRow :=
  [⟨0xFC000000, 0x20000000⟩ /- ADDI -/,
   ⟨0xFC000000, 0x24000000⟩ /- ADDIU -/,
   ⟨0xFC000000, 0x28000000⟩ /- SLTI -/,
   ⟨0xFC000000, 0x2C000000⟩ /- SLTIU -/,
   ⟨0xFC000000, 0x30000000⟩ /- ANDI -/,
   ⟨0xFC000000, 0x34000000⟩ /- ORI -/,
   ⟨0xFC000000, 0x38000000⟩ /- XORI -/,
   ⟨0xFC000000, 0x3C000000⟩ /- LUI -/]

/-- Scalar loads and stores (42_scalar_loadstore.md) -/
def rowsLoadStore : List OpcodeRow :=
  [⟨0xFC000000, 0x80000000⟩ /- LB -/,
   ⟨0xFC000000, 0x84000000⟩ /- LH -/,
   ⟨0xFC000000, 0x8C000000⟩ /- LW -/,
   ⟨0xFC000000, 0x90000000⟩ /- LBU -/,
   ⟨0xFC000000, 0x94000000⟩ /- LHU -/,
   ⟨0xFC000000, 0x9C000000⟩ /- LWU -/,
   ⟨0xFC000000, 0xA0000000⟩ /- SB -/,
   ⟨0xFC000000, 0xA4000000⟩ /- SH -/,
   ⟨0xFC000000, 0xAC000000⟩ /- SW -/]

/-- Jumps and branches (41_scalar_branch.md) -/
def rowsTransfer : List OpcodeRow :=
  [⟨0xFC000000, 0x08000000⟩ /- J -/,
   ⟨0xFC000000, 0x0C000000⟩ /- JAL -/,
   ⟨0xFC00003F, 0x00000008⟩ /- JR -/,
   ⟨0xFC00003F, 0x00000009⟩ /- JALR -/,
   ⟨0xFC000000, 0x10000000⟩ /- BEQ -/,
   ⟨0xFC000000, 0x14000000⟩ /- BNE -/,
   ⟨0xFC000000, 0x18000000⟩ /- BLEZ -/,
   ⟨0xFC000000, 0x1C000000⟩ /- BGTZ -/,
   ⟨0xFC1F0000, 0x04000000⟩ /- BLTZ -/,
   ⟨0xFC1F0000, 0x04010000⟩ /- BGEZ -/,
   ⟨0xFC1F0000, 0x04100000⟩ /- BLTZAL -/,
   ⟨0xFC1F0000, 0x04110000⟩ /- BGEZAL -/]

/-- BREAK and the coprocessor moves (43_scalar_cop_moves.md) -/
def rowsCopMove : List OpcodeRow :=
  [⟨0xFC00003F, 0x0000000D⟩ /- BREAK -/,
   ⟨0xFFE00000, 0x40000000⟩ /- MFC0 -/,
   ⟨0xFFE00000, 0x40800000⟩ /- MTC0 -/,
   ⟨0xFFE00000, 0x48000000⟩ /- MFC2 -/,
   ⟨0xFFE00000, 0x48800000⟩ /- MTC2 -/,
   ⟨0xFFE00000, 0x48400000⟩ /- CFC2 -/,
   ⟨0xFFE00000, 0x48C00000⟩ /- CTC2 -/]

/-- Vector multiply and multiply-accumulate (44_vector_multiply.md) -/
def rowsVectorMultiply : List OpcodeRow :=
  [⟨0xFE00003F, 0x4A000000⟩ /- VMULF -/,
   ⟨0xFE00003F, 0x4A000001⟩ /- VMULU -/,
   ⟨0xFE00003F, 0x4A000002⟩ /- VRNDP -/,
   ⟨0xFE00003F, 0x4A000003⟩ /- VMULQ -/,
   ⟨0xFE00003F, 0x4A000004⟩ /- VMUDL -/,
   ⟨0xFE00003F, 0x4A000005⟩ /- VMUDM -/,
   ⟨0xFE00003F, 0x4A000006⟩ /- VMUDN -/,
   ⟨0xFE00003F, 0x4A000007⟩ /- VMUDH -/,
   ⟨0xFE00003F, 0x4A000008⟩ /- VMACF -/,
   ⟨0xFE00003F, 0x4A000009⟩ /- VMACU -/,
   ⟨0xFE00003F, 0x4A00000A⟩ /- VRNDN -/,
   ⟨0xFE00003F, 0x4A00000B⟩ /- VMACQ -/,
   ⟨0xFE00003F, 0x4A00000C⟩ /- VMADL -/,
   ⟨0xFE00003F, 0x4A00000D⟩ /- VMADM -/,
   ⟨0xFE00003F, 0x4A00000E⟩ /- VMADN -/,
   ⟨0xFE00003F, 0x4A00000F⟩ /- VMADH -/]

/-- Vector add, subtract, accumulator read, logic (45_vector_add_logic.md) -/
def rowsVectorAddLogic : List OpcodeRow :=
  [⟨0xFE00003F, 0x4A000010⟩ /- VADD -/,
   ⟨0xFE00003F, 0x4A000011⟩ /- VSUB -/,
   ⟨0xFE00003F, 0x4A000013⟩ /- VABS -/,
   ⟨0xFE00003F, 0x4A000014⟩ /- VADDC -/,
   ⟨0xFE00003F, 0x4A000015⟩ /- VSUBC -/,
   ⟨0xFE00003F, 0x4A00001D⟩ /- VSAR -/,
   ⟨0xFE00003F, 0x4A000028⟩ /- VAND -/,
   ⟨0xFE00003F, 0x4A000029⟩ /- VNAND -/,
   ⟨0xFE00003F, 0x4A00002A⟩ /- VOR -/,
   ⟨0xFE00003F, 0x4A00002B⟩ /- VNOR -/,
   ⟨0xFE00003F, 0x4A00002C⟩ /- VXOR -/,
   ⟨0xFE00003F, 0x4A00002D⟩ /- VNXOR -/]

/-- Reserved vector opcodes (45_vector_add_logic.md R295) -/
def rowsVectorReserved : List OpcodeRow :=
  [⟨0xFE00003F, 0x4A000012⟩ /- VRSVD_12 -/,
   ⟨0xFE00003F, 0x4A000016⟩ /- VRSVD_16 -/,
   ⟨0xFE00003F, 0x4A000017⟩ /- VRSVD_17 -/,
   ⟨0xFE00003F, 0x4A000018⟩ /- VRSVD_18 -/,
   ⟨0xFE00003F, 0x4A000019⟩ /- VRSVD_19 -/,
   ⟨0xFE00003F, 0x4A00001A⟩ /- VRSVD_1A -/,
   ⟨0xFE00003F, 0x4A00001B⟩ /- VRSVD_1B -/,
   ⟨0xFE00003F, 0x4A00001C⟩ /- VRSVD_1C -/,
   ⟨0xFE00003F, 0x4A00001E⟩ /- VRSVD_1E -/,
   ⟨0xFE00003F, 0x4A00001F⟩ /- VRSVD_1F -/,
   ⟨0xFE00003F, 0x4A00002E⟩ /- VRSVD_2E -/,
   ⟨0xFE00003F, 0x4A00002F⟩ /- VRSVD_2F -/,
   ⟨0xFE00003F, 0x4A000038⟩ /- VRSVD_38 -/,
   ⟨0xFE00003F, 0x4A000039⟩ /- VRSVD_39 -/,
   ⟨0xFE00003F, 0x4A00003A⟩ /- VRSVD_3A -/,
   ⟨0xFE00003F, 0x4A00003B⟩ /- VRSVD_3B -/,
   ⟨0xFE00003F, 0x4A00003C⟩ /- VRSVD_3C -/,
   ⟨0xFE00003F, 0x4A00003D⟩ /- VRSVD_3D -/,
   ⟨0xFE00003F, 0x4A00003E⟩ /- VRSVD_3E -/]

/-- Vector compare, clip and merge (46_vector_compare_select.md) -/
def rowsVectorCompare : List OpcodeRow :=
  [⟨0xFE00003F, 0x4A000020⟩ /- VLT -/,
   ⟨0xFE00003F, 0x4A000021⟩ /- VEQ -/,
   ⟨0xFE00003F, 0x4A000022⟩ /- VNE -/,
   ⟨0xFE00003F, 0x4A000023⟩ /- VGE -/,
   ⟨0xFE00003F, 0x4A000024⟩ /- VCL -/,
   ⟨0xFE00003F, 0x4A000025⟩ /- VCH -/,
   ⟨0xFE00003F, 0x4A000026⟩ /- VCR -/,
   ⟨0xFE00003F, 0x4A000027⟩ /- VMRG -/]

/-- Vector single-lane operations (47_vector_single_lane.md) -/
def rowsSingleLane : List OpcodeRow :=
  [⟨0xFE00003F, 0x4A000030⟩ /- VRCP -/,
   ⟨0xFE00003F, 0x4A000031⟩ /- VRCPL -/,
   ⟨0xFE00003F, 0x4A000032⟩ /- VRCPH -/,
   ⟨0xFE00003F, 0x4A000033⟩ /- VMOV -/,
   ⟨0xFE00003F, 0x4A000034⟩ /- VRSQ -/,
   ⟨0xFE00003F, 0x4A000035⟩ /- VRSQL -/,
   ⟨0xFE00003F, 0x4A000036⟩ /- VRSQH -/,
   ⟨0xFE00003F, 0x4A000037⟩ /- VNOP -/,
   ⟨0xFE00003F, 0x4A00003F⟩ /- VNULL -/]

/-- Vector loads (48_vector_loadstore.md) -/
def rowsVectorLoad : List OpcodeRow :=
  [⟨0xFC00F800, 0xC8000000⟩ /- LBV -/,
   ⟨0xFC00F800, 0xC8000800⟩ /- LSV -/,
   ⟨0xFC00F800, 0xC8001000⟩ /- LLV -/,
   ⟨0xFC00F800, 0xC8001800⟩ /- LDV -/,
   ⟨0xFC00F800, 0xC8002000⟩ /- LQV -/,
   ⟨0xFC00F800, 0xC8002800⟩ /- LRV -/,
   ⟨0xFC00F800, 0xC8003000⟩ /- LPV -/,
   ⟨0xFC00F800, 0xC8003800⟩ /- LUV -/,
   ⟨0xFC00F800, 0xC8004000⟩ /- LHV -/,
   ⟨0xFC00F800, 0xC8004800⟩ /- LFV -/,
   ⟨0xFC00F800, 0xC8005000⟩ /- LWV -/,
   ⟨0xFC00F800, 0xC8005800⟩ /- LTV -/]

/-- Vector stores (48_vector_loadstore.md) -/
def rowsVectorStore : List OpcodeRow :=
  [⟨0xFC00F800, 0xE8000000⟩ /- SBV -/,
   ⟨0xFC00F800, 0xE8000800⟩ /- SSV -/,
   ⟨0xFC00F800, 0xE8001000⟩ /- SLV -/,
   ⟨0xFC00F800, 0xE8001800⟩ /- SDV -/,
   ⟨0xFC00F800, 0xE8002000⟩ /- SQV -/,
   ⟨0xFC00F800, 0xE8002800⟩ /- SRV -/,
   ⟨0xFC00F800, 0xE8003000⟩ /- SPV -/,
   ⟨0xFC00F800, 0xE8003800⟩ /- SUV -/,
   ⟨0xFC00F800, 0xE8004000⟩ /- SHV -/,
   ⟨0xFC00F800, 0xE8004800⟩ /- SFV -/,
   ⟨0xFC00F800, 0xE8005000⟩ /- SWV -/,
   ⟨0xFC00F800, 0xE8005800⟩ /- STV -/]

/-- spec/opcode_table.json: the mask and the pattern of each of its 140 rows. -/
def opcodeTable : List OpcodeRow :=
  rowsScalarRegister ++ rowsShift ++ rowsImmediate ++
  rowsLoadStore ++ rowsTransfer ++ rowsCopMove ++
  rowsVectorMultiply ++ rowsVectorAddLogic ++ rowsVectorReserved ++
  rowsVectorCompare ++ rowsSingleLane ++ rowsVectorLoad ++
  rowsVectorStore

/-- The row of spec/opcode_table.json an instruction belongs to. -/
def Instr.row : Instr → OpcodeRow
  | .add _ _ _ => ⟨0xFC00003F, 0x00000020⟩
  | .addu _ _ _ => ⟨0xFC00003F, 0x00000021⟩
  | .sub _ _ _ => ⟨0xFC00003F, 0x00000022⟩
  | .subu _ _ _ => ⟨0xFC00003F, 0x00000023⟩
  | .and _ _ _ => ⟨0xFC00003F, 0x00000024⟩
  | .or _ _ _ => ⟨0xFC00003F, 0x00000025⟩
  | .xor _ _ _ => ⟨0xFC00003F, 0x00000026⟩
  | .nor _ _ _ => ⟨0xFC00003F, 0x00000027⟩
  | .slt _ _ _ => ⟨0xFC00003F, 0x0000002A⟩
  | .sltu _ _ _ => ⟨0xFC00003F, 0x0000002B⟩
  | .sll _ _ _ => ⟨0xFC00003F, 0x00000000⟩
  | .srl _ _ _ => ⟨0xFC00003F, 0x00000002⟩
  | .sra _ _ _ => ⟨0xFC00003F, 0x00000003⟩
  | .sllv _ _ _ => ⟨0xFC00003F, 0x00000004⟩
  | .srlv _ _ _ => ⟨0xFC00003F, 0x00000006⟩
  | .srav _ _ _ => ⟨0xFC00003F, 0x00000007⟩
  | .addi _ _ _ => ⟨0xFC000000, 0x20000000⟩
  | .addiu _ _ _ => ⟨0xFC000000, 0x24000000⟩
  | .slti _ _ _ => ⟨0xFC000000, 0x28000000⟩
  | .sltiu _ _ _ => ⟨0xFC000000, 0x2C000000⟩
  | .andi _ _ _ => ⟨0xFC000000, 0x30000000⟩
  | .ori _ _ _ => ⟨0xFC000000, 0x34000000⟩
  | .xori _ _ _ => ⟨0xFC000000, 0x38000000⟩
  | .lui _ _ => ⟨0xFC000000, 0x3C000000⟩
  | .lb _ _ _ => ⟨0xFC000000, 0x80000000⟩
  | .lh _ _ _ => ⟨0xFC000000, 0x84000000⟩
  | .lw _ _ _ => ⟨0xFC000000, 0x8C000000⟩
  | .lbu _ _ _ => ⟨0xFC000000, 0x90000000⟩
  | .lhu _ _ _ => ⟨0xFC000000, 0x94000000⟩
  | .lwu _ _ _ => ⟨0xFC000000, 0x9C000000⟩
  | .sb _ _ _ => ⟨0xFC000000, 0xA0000000⟩
  | .sh _ _ _ => ⟨0xFC000000, 0xA4000000⟩
  | .sw _ _ _ => ⟨0xFC000000, 0xAC000000⟩
  | .j _ => ⟨0xFC000000, 0x08000000⟩
  | .jal _ => ⟨0xFC000000, 0x0C000000⟩
  | .jr _ => ⟨0xFC00003F, 0x00000008⟩
  | .jalr _ _ => ⟨0xFC00003F, 0x00000009⟩
  | .beq _ _ _ => ⟨0xFC000000, 0x10000000⟩
  | .bne _ _ _ => ⟨0xFC000000, 0x14000000⟩
  | .blez _ _ => ⟨0xFC000000, 0x18000000⟩
  | .bgtz _ _ => ⟨0xFC000000, 0x1C000000⟩
  | .bltz _ _ => ⟨0xFC1F0000, 0x04000000⟩
  | .bgez _ _ => ⟨0xFC1F0000, 0x04010000⟩
  | .bltzal _ _ => ⟨0xFC1F0000, 0x04100000⟩
  | .bgezal _ _ => ⟨0xFC1F0000, 0x04110000⟩
  | .brk _ => ⟨0xFC00003F, 0x0000000D⟩
  | .mfc0 _ _ => ⟨0xFFE00000, 0x40000000⟩
  | .mtc0 _ _ => ⟨0xFFE00000, 0x40800000⟩
  | .mfc2 _ _ _ => ⟨0xFFE00000, 0x48000000⟩
  | .mtc2 _ _ _ => ⟨0xFFE00000, 0x48800000⟩
  | .cfc2 _ _ => ⟨0xFFE00000, 0x48400000⟩
  | .ctc2 _ _ => ⟨0xFFE00000, 0x48C00000⟩
  | .vmulf _ _ _ _ => ⟨0xFE00003F, 0x4A000000⟩
  | .vmulu _ _ _ _ => ⟨0xFE00003F, 0x4A000001⟩
  | .vrndp _ _ _ _ => ⟨0xFE00003F, 0x4A000002⟩
  | .vmulq _ _ _ _ => ⟨0xFE00003F, 0x4A000003⟩
  | .vmudl _ _ _ _ => ⟨0xFE00003F, 0x4A000004⟩
  | .vmudm _ _ _ _ => ⟨0xFE00003F, 0x4A000005⟩
  | .vmudn _ _ _ _ => ⟨0xFE00003F, 0x4A000006⟩
  | .vmudh _ _ _ _ => ⟨0xFE00003F, 0x4A000007⟩
  | .vmacf _ _ _ _ => ⟨0xFE00003F, 0x4A000008⟩
  | .vmacu _ _ _ _ => ⟨0xFE00003F, 0x4A000009⟩
  | .vrndn _ _ _ _ => ⟨0xFE00003F, 0x4A00000A⟩
  | .vmacq _ _ _ _ => ⟨0xFE00003F, 0x4A00000B⟩
  | .vmadl _ _ _ _ => ⟨0xFE00003F, 0x4A00000C⟩
  | .vmadm _ _ _ _ => ⟨0xFE00003F, 0x4A00000D⟩
  | .vmadn _ _ _ _ => ⟨0xFE00003F, 0x4A00000E⟩
  | .vmadh _ _ _ _ => ⟨0xFE00003F, 0x4A00000F⟩
  | .vadd _ _ _ _ => ⟨0xFE00003F, 0x4A000010⟩
  | .vsub _ _ _ _ => ⟨0xFE00003F, 0x4A000011⟩
  | .vabs _ _ _ _ => ⟨0xFE00003F, 0x4A000013⟩
  | .vaddc _ _ _ _ => ⟨0xFE00003F, 0x4A000014⟩
  | .vsubc _ _ _ _ => ⟨0xFE00003F, 0x4A000015⟩
  | .vsar _ _ => ⟨0xFE00003F, 0x4A00001D⟩
  | .vand _ _ _ _ => ⟨0xFE00003F, 0x4A000028⟩
  | .vnand _ _ _ _ => ⟨0xFE00003F, 0x4A000029⟩
  | .vor _ _ _ _ => ⟨0xFE00003F, 0x4A00002A⟩
  | .vnor _ _ _ _ => ⟨0xFE00003F, 0x4A00002B⟩
  | .vxor _ _ _ _ => ⟨0xFE00003F, 0x4A00002C⟩
  | .vnxor _ _ _ _ => ⟨0xFE00003F, 0x4A00002D⟩
  | .vrsvd12 _ _ _ _ => ⟨0xFE00003F, 0x4A000012⟩
  | .vrsvd16 _ _ _ _ => ⟨0xFE00003F, 0x4A000016⟩
  | .vrsvd17 _ _ _ _ => ⟨0xFE00003F, 0x4A000017⟩
  | .vrsvd18 _ _ _ _ => ⟨0xFE00003F, 0x4A000018⟩
  | .vrsvd19 _ _ _ _ => ⟨0xFE00003F, 0x4A000019⟩
  | .vrsvd1a _ _ _ _ => ⟨0xFE00003F, 0x4A00001A⟩
  | .vrsvd1b _ _ _ _ => ⟨0xFE00003F, 0x4A00001B⟩
  | .vrsvd1c _ _ _ _ => ⟨0xFE00003F, 0x4A00001C⟩
  | .vrsvd1e _ _ _ _ => ⟨0xFE00003F, 0x4A00001E⟩
  | .vrsvd1f _ _ _ _ => ⟨0xFE00003F, 0x4A00001F⟩
  | .vrsvd2e _ _ _ _ => ⟨0xFE00003F, 0x4A00002E⟩
  | .vrsvd2f _ _ _ _ => ⟨0xFE00003F, 0x4A00002F⟩
  | .vrsvd38 _ _ _ _ => ⟨0xFE00003F, 0x4A000038⟩
  | .vrsvd39 _ _ _ _ => ⟨0xFE00003F, 0x4A000039⟩
  | .vrsvd3a _ _ _ _ => ⟨0xFE00003F, 0x4A00003A⟩
  | .vrsvd3b _ _ _ _ => ⟨0xFE00003F, 0x4A00003B⟩
  | .vrsvd3c _ _ _ _ => ⟨0xFE00003F, 0x4A00003C⟩
  | .vrsvd3d _ _ _ _ => ⟨0xFE00003F, 0x4A00003D⟩
  | .vrsvd3e _ _ _ _ => ⟨0xFE00003F, 0x4A00003E⟩
  | .vlt _ _ _ _ => ⟨0xFE00003F, 0x4A000020⟩
  | .veq _ _ _ _ => ⟨0xFE00003F, 0x4A000021⟩
  | .vne _ _ _ _ => ⟨0xFE00003F, 0x4A000022⟩
  | .vge _ _ _ _ => ⟨0xFE00003F, 0x4A000023⟩
  | .vcl _ _ _ _ => ⟨0xFE00003F, 0x4A000024⟩
  | .vch _ _ _ _ => ⟨0xFE00003F, 0x4A000025⟩
  | .vcr _ _ _ _ => ⟨0xFE00003F, 0x4A000026⟩
  | .vmrg _ _ _ _ => ⟨0xFE00003F, 0x4A000027⟩
  | .vrcp _ _ _ _ => ⟨0xFE00003F, 0x4A000030⟩
  | .vrcpl _ _ _ _ => ⟨0xFE00003F, 0x4A000031⟩
  | .vrcph _ _ _ _ => ⟨0xFE00003F, 0x4A000032⟩
  | .vmov _ _ _ _ => ⟨0xFE00003F, 0x4A000033⟩
  | .vrsq _ _ _ _ => ⟨0xFE00003F, 0x4A000034⟩
  | .vrsql _ _ _ _ => ⟨0xFE00003F, 0x4A000035⟩
  | .vrsqh _ _ _ _ => ⟨0xFE00003F, 0x4A000036⟩
  | .vnop => ⟨0xFE00003F, 0x4A000037⟩
  | .vnull => ⟨0xFE00003F, 0x4A00003F⟩
  | .lbv _ _ _ _ => ⟨0xFC00F800, 0xC8000000⟩
  | .lsv _ _ _ _ => ⟨0xFC00F800, 0xC8000800⟩
  | .llv _ _ _ _ => ⟨0xFC00F800, 0xC8001000⟩
  | .ldv _ _ _ _ => ⟨0xFC00F800, 0xC8001800⟩
  | .lqv _ _ _ _ => ⟨0xFC00F800, 0xC8002000⟩
  | .lrv _ _ _ _ => ⟨0xFC00F800, 0xC8002800⟩
  | .lpv _ _ _ _ => ⟨0xFC00F800, 0xC8003000⟩
  | .luv _ _ _ _ => ⟨0xFC00F800, 0xC8003800⟩
  | .lhv _ _ _ _ => ⟨0xFC00F800, 0xC8004000⟩
  | .lfv _ _ _ _ => ⟨0xFC00F800, 0xC8004800⟩
  | .lwv _ _ _ _ => ⟨0xFC00F800, 0xC8005000⟩
  | .ltv _ _ _ _ => ⟨0xFC00F800, 0xC8005800⟩
  | .sbv _ _ _ _ => ⟨0xFC00F800, 0xE8000000⟩
  | .ssv _ _ _ _ => ⟨0xFC00F800, 0xE8000800⟩
  | .slv _ _ _ _ => ⟨0xFC00F800, 0xE8001000⟩
  | .sdv _ _ _ _ => ⟨0xFC00F800, 0xE8001800⟩
  | .sqv _ _ _ _ => ⟨0xFC00F800, 0xE8002000⟩
  | .srv _ _ _ _ => ⟨0xFC00F800, 0xE8002800⟩
  | .spv _ _ _ _ => ⟨0xFC00F800, 0xE8003000⟩
  | .suv _ _ _ _ => ⟨0xFC00F800, 0xE8003800⟩
  | .shv _ _ _ _ => ⟨0xFC00F800, 0xE8004000⟩
  | .sfv _ _ _ _ => ⟨0xFC00F800, 0xE8004800⟩
  | .swv _ _ _ _ => ⟨0xFC00F800, 0xE8005000⟩
  | .stv _ _ _ _ => ⟨0xFC00F800, 0xE8005800⟩

/-! ### Bytes (R72: an instruction word is big-endian) -/

/-- The four bytes of a word, the most significant first. -/
def wordBytes (w : Word) : List Byte :=
  [w.extractLsb' 24 8, w.extractLsb' 16 8, w.extractLsb' 8 8, w.extractLsb' 0 8]

/-- The first instruction of a run of bytes, and the bytes after it (R72, R100). -/
def decodeBytes : List Byte → Except DecodeReject (Instr × List Byte)
  | b0 :: b1 :: b2 :: b3 :: rest =>
    match decode (b0 ++ b1 ++ b2 ++ b3) with
    | .ok i => .ok (i, rest)
    | .error r => .error r
  | _ => .error .truncated

/-- The word whose bits are the low `nbits` bits of `w`, numbered as spec/opcode_table.json numbers them
(bit 0 the least significant bit of the one word an instruction has, R100); the bits above are zero. -/
def tableWord (nbits w : Nat) : Word := BitVec.ofNat 32 (w % 2 ^ nbits)

/-- What the decoder reads from the bytes of a table word, laid out as the engine stores them. -/
def decodeTableWord (nbits w : Nat) : Option Instr :=
  match decodeBytes (wordBytes (tableWord nbits w)) with
  | .ok (i, _) => some i
  | .error _ => none

end Sys2Proof
end

