-- ==== Sys2Proof/Machine/State.lean ====
section
/-! DEFINITION. The state of the engine (spec 10_state.md) as plain data, the reasons a step can stop, and
the state right after creation of an instance (R54).

Registers that software reads and writes whole are bit vectors; what lives only inside the control loop
(`pend`, `halted`) is an inductive type or a Bool. -/

namespace Sys2Proof.Machine

/-- The machine stops with a fault: never.  R440: "The engine raises no exception"; R447: "The model has no
`Fault` outcome".  The type has no constructor, so no step can fault. -/
inductive Fault where
  deriving DecidableEq, Repr

/-- The reasons an instruction cycle has no meaning. -/
inductive Refusal where
  /-- Raised by `exec`'s arm of an instruction this model has given no meaning to.  Safe: no claim about a
  run past it can be proved.  No arm of this model raises it. -/
  | notModelled (mnemonic : String)
  /-- `CTI_IN_DELAY_SLOT` (R183, R446): raised by the twelve control transfers while `pend` is not `none`, and
  again by every step of a state that carries the mark of one.
  Safe: "the refusal errs toward unprovable" (R446). -/
  | ctiInDelaySlot
  deriving DecidableEq, Repr

/-- The delay-slot state (R36). -/
inductive Pend where
  /-- the previous instruction was no control transfer -/
  | none
  /-- `slot(none)`, after an untaken transfer; `slot(T)`, after a taken transfer to `T` -/
  | slot (target : Option RegionAddr)
  deriving DecidableEq, Repr

/-- The contents of a region: the bytes written since creation, as address and byte pairs, the addresses
strictly rising.  An unlisted address holds no byte of the list; it reads as the draw INIT_MEM (R54, D14;
assumption log 2). -/
abbrev Memory := List Host.Cell

/-- The addresses of `m` rise strictly, and each is at least `lo`. -/
def Memory.risesFrom (lo : Nat) : Memory → Bool
  | [] => true
  | (a, _) :: rest => decide (lo ≤ a) && Memory.risesFrom (a + 1) rest

/-- The canonical form of a region: addresses strictly rising, every one inside the region (R51, R71). -/
def Memory.wf (m : Memory) : Bool :=
  Memory.risesFrom 0 m && m.all fun c => decide (c.1 < 4096)

/-- Everything the spec gives the machine (10_state.md), and the model's own fields `draws` and `refused`. -/
structure State where
  /-- the scalar registers (R30); slot 0 is storage only: `State.x` and `State.setX` hard-wire register 0 -/
  gpr : Vector Word 32
  /-- the program counter (R34) -/
  pc : Word
  /-- the delay-slot state (R36) -/
  pend : Pend
  /-- the vector registers (R40) -/
  vr : Vector VReg 32
  /-- the accumulator (R42) -/
  acc : Vector AccLane 8
  /-- VCO (R45): bits 7:0 carry, bits 15:8 not-equal; bit `j` (`8+j`) is lane `j` -/
  vco : BitVec 16
  /-- VCC (R46): bits 7:0 compare, bits 15:8 clip -/
  vcc : BitVec 16
  /-- VCE (R47): compare extension -/
  vce : BitVec 8
  /-- DIVIN (R49): the high half of a pending double-precision input -/
  divIn : Half
  /-- DIVOUT (R49): the high half of the last result -/
  divOut : Half
  /-- DIVDP (R49): DIVIN holds a pending high half -/
  divDp : Bool
  /-- the control state (R50, R410) -/
  halted : Bool
  /-- retired instructions since the last `init` (R50, R416) -/
  cycles : Nat
  /-- instruction memory (R51, R70) -/
  imem : Memory
  /-- data memory (R51, R70) -/
  dmem : Memory
  /-- the sticky refusal mark (R446): the reason of the first refused cycle (assumption log 6) -/
  refused : Option Refusal
  /-- the two-valued parameters (R8, R52); nothing writes them (assumption log 1) -/
  cfg : Config
  /-- the model's own: how many draws (R11) the run has taken (assumption log 5) -/
  draws : Nat
  deriving DecidableEq, Repr

/-- What an instruction's meaning answers. -/
abbrev Result := Host.Outcome State Fault Refusal

/-- The engine right after creation (R54, R470): registers zeroed, halted, memory unlisted, so that it reads as the
draw INIT_MEM, which is one for all instances (assumption log 18). -/
def State.reset : State :=
  { gpr := Vector.replicate 32 0
    pc := 0
    pend := .none
    vr := Vector.replicate 32 (Vector.replicate 8 0)
    acc := Vector.replicate 8 0
    vco := 0
    vcc := 0
    vce := 0
    divIn := 0
    divOut := 0
    divDp := false
    halted := true
    cycles := 0
    imem := []
    dmem := []
    refused := none
    cfg := Config.default
    draws := 0 }

end Sys2Proof.Machine
end

