-- ==== Sys2Proof/Machine/Ops.lean ====
section
/-! DEFINITION. The operations every meaning is built from: registers, memory, fetching, ending an
instruction cycle, transferring control, drawing a free value.

The spec gives the engine no exception to take and none to return from (R440, R444, R445), so there is no
exception entry here; the one way a cycle does not complete is the refusal of `State.unlessInSlot`. -/

namespace Sys2Proof.Machine

/-! ### Scalar registers (R30, R31) -/

/-- `x[r]`; register 0 reads 0 (R31). -/
def State.x (s : State) (r : Reg) : Word :=
  if r = 0 then 0 else s.gpr[r.toNat]'r.isLt

/-- `x[r] <- v`; a write to register 0 is dropped (R31). -/
def State.setX (s : State) (r : Reg) (v : Word) : State :=
  if r = 0 then s else { s with gpr := s.gpr.set r.toNat v r.isLt }

/-! ### Vector registers and the accumulator (R40, R42) -/

/-- `vr[r]`. -/
def State.vreg (s : State) (r : Reg) : VReg := s.vr[r.toNat]'r.isLt

/-- `vr[r] <- v`; no vector register is hardwired (R40). -/
def State.setVreg (s : State) (r : Reg) (v : VReg) : State :=
  { s with vr := s.vr.set r.toNat v r.isLt }

/-- `vr[r].lane[j]` (R10). -/
def State.lane (s : State) (r : Reg) (j : Fin 8) : Half := (s.vreg r)[j]

/-- `vr[r].lane[j] <- v`, the other lanes unchanged. -/
def State.setLane (s : State) (r : Reg) (j : Fin 8) (v : Half) : State :=
  s.setVreg r ((s.vreg r).set j v)

/-- `acc[j]` (R42). -/
def State.accLane (s : State) (j : Fin 8) : AccLane := s.acc[j]

/-- Byte `k` of a vector register, byte 0 most significant: lane `k/2`, its high half first (R10). -/
def VReg.byte (v : VReg) (k : Elem) : Byte :=
  let lane := v[k.toNat / 2]'(by have := k.isLt; omega)
  if k.toNat % 2 = 0 then lane.extractLsb' 8 8 else lane.extractLsb' 0 8

/-- The register whose byte `k` is `f k`: `lane[j] = byte[2j] : byte[2j+1]` (R10). -/
def VReg.ofBytes (f : Elem → Byte) : VReg :=
  Vector.ofFn fun j => f (BitVec.ofNat 4 (2 * j)) ++ f (BitVec.ofNat 4 (2 * j + 1))

/-- A 128-bit value as a register, lane 0 most significant (R40). -/
def VReg.ofBits (v : BitVec 128) : VReg :=
  Vector.ofFn fun j => v.extractLsb' (112 - 16 * j) 16

/-- `vr[r].byte[k]` (R10). -/
def State.vbyte (s : State) (r : Reg) (k : Elem) : Byte := VReg.byte (s.vreg r) k

/-- Write the bytes of `vr[r]` that `f` gives; the bytes it does not give keep their value (R371). -/
def State.setVbytes (s : State) (r : Reg) (f : Elem → Option Byte) : State :=
  s.setVreg r (VReg.ofBytes fun k => (f k).getD (s.vbyte r k))

/-! ### Memory (20_memory.md) -/

/-- The byte a region lists at an address, if it lists one. -/
def Memory.byte? : Memory → Nat → Option Byte
  | [], _ => none
  | (b, v) :: rest, a => if a = b then some v else Memory.byte? rest a

/-- List a byte at an address, keeping the addresses strictly rising. -/
def Memory.put : Memory → Nat → Byte → Memory
  | [], a, v => [(a, v)]
  | (b, w) :: rest, a, v =>
    if a < b then (a, v) :: (b, w) :: rest
    else if a = b then (a, v) :: rest
    else (b, w) :: Memory.put rest a v

/-- `DM[a]`, the address taken mod 4096 (R71).  A byte no one has written is the draw INIT_MEM (R471). -/
def State.dm (s : State) (a : Word) : Byte :=
  (Memory.byte? s.dmem (a.setWidth 12).toNat).getD (Config.initDmem (a.setWidth 12))

/-- `IM[a]`, the address taken mod 4096 (R71). -/
def State.im (s : State) (a : Word) : Byte :=
  (Memory.byte? s.imem (a.setWidth 12).toNat).getD (Config.initImem (a.setWidth 12))

/-- `DM[a] <- b` (R71, R75). -/
def State.putDm (s : State) (a : Word) (b : Byte) : State :=
  { s with dmem := Memory.put s.dmem (a.setWidth 12).toNat b }

/-- `IM[a] <- b`: the host's access only; no instruction writes IMEM (R70). -/
def State.putIm (s : State) (a : Word) (b : Byte) : State :=
  { s with imem := Memory.put s.imem (a.setWidth 12).toNat b }

/-- `DM[addr k] <- b k` for `k` = 0 .. n-1, in that order. -/
def State.store (s : State) (n : Nat) (addr : Nat → Word) (b : Nat → Byte) : State :=
  match n with
  | 0 => s
  | k + 1 => (s.store k addr b).putDm (addr k) (b k)

/-- `MemRead(a, n)`, big-endian (R74). -/
def State.memRead (s : State) (a : Word) (n : Nat) : BitVec (8 * n) :=
  match n with
  | 0 => 0#0
  | k + 1 => s.memRead a k ++ s.dm (a + BitVec.ofNat 32 k)

/-- `MemWrite(a, n, v)`, big-endian (R75). -/
def State.memWrite (s : State) (a : Word) (n : Nat) (v : BitVec (8 * n)) : State :=
  s.store n (fun k => a + BitVec.ofNat 32 k) (fun k => v.extractLsb' (8 * (n - 1 - k)) 8)

/-! ### The instruction cycle (R34, R35, R413) -/

/-- `P = pc & 0xFFC`, the address of the instruction the cycle executes (R34, R413). -/
def State.fetchAddr (s : State) : RegionAddr := s.pc.setWidth 12 &&& 0xFFC

/-- `Fetch(P)`, big-endian (R77). -/
def State.fetch (s : State) : Word :=
  let p : Word := s.fetchAddr.setWidth 32
  s.im p ++ s.im (p + 1) ++ s.im (p + 2) ++ s.im (p + 3)

/-- Where a cycle that is no control transfer leaves `pc`: at the pending target, else at the next word,
which wraps at the top of IMEM (R35, R413). -/
def State.nextPc (s : State) : RegionAddr :=
  match s.pend with
  | .slot (some t) => t
  | .slot none => (s.fetchAddr + 4) &&& 0xFFC
  | .none => (s.fetchAddr + 4) &&& 0xFFC

/-- The end of a cycle that is no control transfer (R413). -/
def State.retire (s : State) : State :=
  { s with pc := s.nextPc.setWidth 32, pend := .none, cycles := s.cycles + 1 }

/-! ### Control transfers (41_scalar_branch.md) -/

/-- The link value `L` (R182, D27). -/
def State.link (s : State) : RegionAddr :=
  (s.fetchAddr + if s.cfg.delaySlot then 8 else 4) &&& 0xFFC

/-- The end of a control transfer's cycle (R180, R413), with a delay slot and without. -/
def State.transfer (s : State) (taken : Bool) (target : RegionAddr) : State :=
  let next : RegionAddr := (s.fetchAddr + 4) &&& 0xFFC
  if s.cfg.delaySlot then
    { s with
      pc := next.setWidth 32
      pend := .slot (if taken then some target else none)
      cycles := s.cycles + 1 }
  else
    { s with
      pc := if taken then target.setWidth 32 else next.setWidth 32
      cycles := s.cycles + 1 }

/-- A control transfer completes to `t`, but in the delay slot of another it is refused and changes nothing
(R183, R413, R414). -/
def State.unlessInSlot (s : State) (t : State) : Result :=
  match s.pend with
  | .none => .next t
  | .slot _ => .refused .ctiInDelaySlot

/-! ### The sticky refusal mark (R446) -/

/-- What a step of an engine answers: `r`, but once a cycle has been refused the refusal again, so that no claim
about the course of a marked run can be proved (R446; assumption log 6). -/
def State.unlessMarked (s : State) (r : Result) : Result :=
  match s.refused with
  | none => r
  | some reason => .refused reason

/-- The state with the mark set by a cycle refused for `r`, unless an earlier cycle set it (R446). -/
def State.markRefused (s : State) (r : Refusal) : State :=
  { s with refused := match s.refused with
    | none => some r
    | some first => some first }

/-! ### Draws (R11, R222, R380) -/

/-- Count one draw, so that the next one is a free value of its own. -/
def State.countDraw (s : State) : State := { s with draws := s.draws + 1 }

end Sys2Proof.Machine
end

