-- ==== Sys2Proof/Machine/Operands.lean ====
section
/-! DEFINITION. Operand assembly: immediates, targets and effective addresses (R107-R110), the element
selector (R112), and the saturating helpers of R12 and 47_vector_single_lane.md R343. -/

namespace Sys2Proof.Machine

/-! ### Immediates (R107, R108) -/

/-- `sext_32(imm)`. -/
def simm (imm : BitVec 16) : Word := imm.signExtend 32

/-- `zext_32(imm)`. -/
def zimm (imm : BitVec 16) : Word := imm.setWidth 32

/-- The 32-bit result of a comparison: 1 or 0 (R150). -/
def boolWord (b : Bool) : Word := if b then 1 else 0

/-- The PC-relative target of a branch (R181): counted from the instruction after the branch. -/
def State.branchTarget (s : State) (imm : BitVec 16) : RegionAddr :=
  (s.fetchAddr.setWidth 32 + 4 + simm imm <<< 2 : Word).setWidth 12 &&& 0xFFC

/-- The target of J and JAL: `(target << 2) & 0xFFC` (R108). -/
def jumpTarget (target : BitVec 26) : RegionAddr :=
  (target.setWidth 32 <<< 2 : Word).setWidth 12 &&& 0xFFC

/-- The target of JR and JALR: `x[rs] & 0xFFC` (R187, R188). -/
def registerTarget (v : Word) : RegionAddr := v.setWidth 12 &&& 0xFFC

/-! ### Effective addresses -/

/-- Base plus displacement of the scalar loads and stores (R200). -/
def State.ea (s : State) (base : Reg) (imm : BitVec 16) : Word := s.x base + simm imm

/-- Base plus scaled offset of the vector loads and stores (R110, R370). -/
def State.vaddr (s : State) (base : Reg) (offset : BitVec 7) (scale : Nat) : Word :=
  s.x base + offset.signExtend 32 * BitVec.ofNat 32 scale

/-- The 8-byte boundary at or below an address: `addr & ~7`. -/
def windowBase (addr : Word) : Word := addr &&& ~~~7

/-- The 16-byte boundary at or below an address: `addr & ~15`. -/
def quadBase (addr : Word) : Word := addr &&& ~~~15

/-- Byte `i mod 16` of the 16-byte window at `b`, as the packed, half, fourth, wrapped and transposed forms
address it (R376, R388, R391). -/
def windowByte (b : Word) (i : Elem) : Word := b + i.setWidth 32

/-- `index` of R376: `((addr & 7) - e) mod 16`. -/
def packedIndex (addr : Word) (e : Elem) : Elem := (addr &&& 7).setWidth 4 - e

/-! ### The element selector (R12, R112) -/

/-- `sel(e, j)`: the lane of `vt` that feeds lane `j`. -/
def sel (e : Elem) (j : Fin 8) : Fin 8 :=
  let n := e.toNat
  Fin.ofNat 8 <|
    if n < 2 then j
    else if n < 4 then (j &&& 6) ||| (n &&& 1)
    else if n < 8 then (j &&& 4) ||| (n &&& 3)
    else n &&& 7

/-- `vte[j]`: lane `j` of the element-selected second operand (R12). -/
def State.vte (s : State) (vt : Reg) (e : Elem) (j : Fin 8) : Half := s.lane vt (sel e j)

/-! ### Saturation and clamping (R12) -/

/-- `trunc_16(x)`. -/
def trunc16 (x : Int) : Half := BitVec.ofInt 16 x

/-- `trunc_48(x)`. -/
def trunc48 (x : Int) : AccLane := BitVec.ofInt 48 x

/-- `sat16(x)`: signed saturation. -/
def sat16 (x : Int) : Half := trunc16 (min (max x (-32768)) 32767)

/-- `mid(a)`: accumulator bits 47:16 as a signed number. -/
def mid (a : AccLane) : Int := (a.extractLsb' 16 32).toInt

/-- `clampS(a)`. -/
def clampS (a : AccLane) : Half := sat16 (mid a)

/-- `clampU(a)`. -/
def clampU (a : AccLane) : Half :=
  if mid a < 0 then 0x0000 else if mid a > 32767 then 0xFFFF else a.extractLsb' 16 16

/-- `clampL(a)`. -/
def clampL (a : AccLane) : Half :=
  if mid a < -32768 then 0x0000 else if mid a > 32767 then 0xFFFF else a.extractLsb' 0 16

/-- The accumulator lane with its low plane replaced (R42). -/
def withLo (a : AccLane) (lo : Half) : AccLane := a.extractLsb' 16 32 ++ lo

/-! ### Numbers (R9) -/

/-- `u16(v)` as an integer. -/
def u16 (v : Half) : Int := v.toNat

/-- `clz32(x)` of a nonzero `x` (47_vector_single_lane.md): leading zero bits. -/
def clz32 (x : Word) : Nat := 31 - x.toNat.log2

end Sys2Proof.Machine
end

