-- ==== Sys2Proof/Machine/Flags.lean ====
section
/-! DEFINITION. The flag registers VCO, VCC and VCE of the vector unit (R44-R48): reading a lane's bits and
packing eight lanes' bits.  Bit `j` of an 8-bit field is lane `j` (D24).  The scalar unit has no flags
(R140). -/

namespace Sys2Proof.Machine

/-- Eight lanes' flags as a field: bit `j` is lane `j`. -/
def laneBits (f : Fin 8 → Bool) : BitVec 8 :=
  BitVec.ofBool (f 7) ++ BitVec.ofBool (f 6) ++ BitVec.ofBool (f 5) ++ BitVec.ofBool (f 4) ++
    BitVec.ofBool (f 3) ++ BitVec.ofBool (f 2) ++ BitVec.ofBool (f 1) ++ BitVec.ofBool (f 0)

/-- A 16-bit flag register from its two fields: bits 15:8 and bits 7:0. -/
def flagPair (high low : Fin 8 → Bool) : BitVec 16 := laneBits high ++ laneBits low

/-- `VCO[j]`, the carry flag of lane `j` (R45). -/
def State.carry (s : State) (j : Fin 8) : Bool := s.vco.getLsbD j

/-- `VCO[8+j]`, the not-equal flag of lane `j` (R45). -/
def State.notEqual (s : State) (j : Fin 8) : Bool := s.vco.getLsbD (8 + j)

/-- `VCC[j]`, the compare flag of lane `j` (R46). -/
def State.cmp (s : State) (j : Fin 8) : Bool := s.vcc.getLsbD j

/-- `VCC[8+j]`, the clip flag of lane `j` (R46). -/
def State.clip (s : State) (j : Fin 8) : Bool := s.vcc.getLsbD (8 + j)

/-- `VCE[j]`, the compare-extension flag of lane `j` (R47). -/
def State.ext (s : State) (j : Fin 8) : Bool := s.vce.getLsbD j

/-- A flag as the number it is in the carry-in of VADD and VSUB (R281). -/
def flagInt (b : Bool) : Int := if b then 1 else 0

/-- `VCO <- 0` (R281). -/
def State.clearVco (s : State) : State := { s with vco := 0 }

end Sys2Proof.Machine
end

