-- ==== Sys2Proof/Machine/ScalarAlu.lean ====
section
/-! DEFINITION. Scalar arithmetic, logic and shifts (40_scalar_alu.md, R140-R166).

Arithmetic is on 32-bit patterns mod 2^32 and never traps (R140, R141). -/

namespace Sys2Proof.Machine

/-- The cycle of an instruction whose one effect is `x[r] <- v` (R140, R413). -/
def State.writeX (s : State) (r : Reg) (v : Word) : Result := .next (s.setX r v).retire

/-- ADD (R142). -/
def execAdd (rd rs rt : Reg) (s : State) : Result := s.writeX rd (s.x rs + s.x rt)
/-- ADDU (R143). -/
def execAddu (rd rs rt : Reg) (s : State) : Result := s.writeX rd (s.x rs + s.x rt)
/-- SUB (R144). -/
def execSub (rd rs rt : Reg) (s : State) : Result := s.writeX rd (s.x rs - s.x rt)
/-- SUBU (R145). -/
def execSubu (rd rs rt : Reg) (s : State) : Result := s.writeX rd (s.x rs - s.x rt)
/-- AND (R146). -/
def execAnd (rd rs rt : Reg) (s : State) : Result := s.writeX rd (s.x rs &&& s.x rt)
/-- OR (R147). -/
def execOr (rd rs rt : Reg) (s : State) : Result := s.writeX rd (s.x rs ||| s.x rt)
/-- XOR (R148). -/
def execXor (rd rs rt : Reg) (s : State) : Result := s.writeX rd (s.x rs ^^^ s.x rt)
/-- NOR (R149). -/
def execNor (rd rs rt : Reg) (s : State) : Result := s.writeX rd (~~~(s.x rs ||| s.x rt))
/-- SLT (R150): signed. -/
def execSlt (rd rs rt : Reg) (s : State) : Result := s.writeX rd (boolWord ((s.x rs).slt (s.x rt)))
/-- SLTU (R151): unsigned. -/
def execSltu (rd rs rt : Reg) (s : State) : Result := s.writeX rd (boolWord ((s.x rs).ult (s.x rt)))

/-- SLL (R152). -/
def execSll (rd rt : Reg) (sa : BitVec 5) (s : State) : Result := s.writeX rd (s.x rt <<< sa.toNat)
/-- SRL (R153): zero fill. -/
def execSrl (rd rt : Reg) (sa : BitVec 5) (s : State) : Result := s.writeX rd (s.x rt >>> sa.toNat)
/-- SRA (R154): fills with bit 31. -/
def execSra (rd rt : Reg) (sa : BitVec 5) (s : State) : Result :=
  s.writeX rd ((s.x rt).sshiftRight sa.toNat)

/-- The amount of a variable shift: `x[rs][4:0]` (R109). -/
def State.shiftAmount (s : State) (rs : Reg) : Nat := ((s.x rs).extractLsb' 0 5).toNat

/-- SLLV (R155). -/
def execSllv (rd rt rs : Reg) (s : State) : Result := s.writeX rd (s.x rt <<< s.shiftAmount rs)
/-- SRLV (R156). -/
def execSrlv (rd rt rs : Reg) (s : State) : Result := s.writeX rd (s.x rt >>> s.shiftAmount rs)
/-- SRAV (R157). -/
def execSrav (rd rt rs : Reg) (s : State) : Result :=
  s.writeX rd ((s.x rt).sshiftRight (s.shiftAmount rs))

/-- ADDI (R158). -/
def execAddi (rt rs : Reg) (imm : BitVec 16) (s : State) : Result := s.writeX rt (s.x rs + simm imm)
/-- ADDIU (R159): the immediate is sign-extended here too. -/
def execAddiu (rt rs : Reg) (imm : BitVec 16) (s : State) : Result := s.writeX rt (s.x rs + simm imm)
/-- SLTI (R160): signed. -/
def execSlti (rt rs : Reg) (imm : BitVec 16) (s : State) : Result :=
  s.writeX rt (boolWord ((s.x rs).slt (simm imm)))
/-- SLTIU (R161): the immediate is sign-extended, then compared as unsigned. -/
def execSltiu (rt rs : Reg) (imm : BitVec 16) (s : State) : Result :=
  s.writeX rt (boolWord ((s.x rs).ult (simm imm)))
/-- ANDI (R162). -/
def execAndi (rt rs : Reg) (imm : BitVec 16) (s : State) : Result := s.writeX rt (s.x rs &&& zimm imm)
/-- ORI (R163). -/
def execOri (rt rs : Reg) (imm : BitVec 16) (s : State) : Result := s.writeX rt (s.x rs ||| zimm imm)
/-- XORI (R164). -/
def execXori (rt rs : Reg) (imm : BitVec 16) (s : State) : Result := s.writeX rt (s.x rs ^^^ zimm imm)
/-- LUI (R165). -/
def execLui (rt : Reg) (imm : BitVec 16) (s : State) : Result := s.writeX rt (imm ++ 0#16)

end Sys2Proof.Machine
end

