-- ==== Sys2Proof/Machine/CopMoves.lean ====
section
/-! DEFINITION. BREAK and the coprocessor moves (43_scalar_cop_moves.md, R220-R228), and the no-op an
ILLEGAL word executes as (30_encoding.md R120). -/

namespace Sys2Proof.Machine

/-- An ILLEGAL word (R120, D19): a no-op; `pc` and `cycles` advance. -/
def execIllegal (s : State) : Result := .next s.retire

/-- BREAK (R220, D6): a no-op on this engine. -/
def execBrk (_code : BitVec 20) (s : State) : Result := .next s.retire

/-- MFC0 (R222, D7): `x[rt]` takes a draw COP0_READ, a free value of its own at each execution. -/
def execMfc0 (rt _rd : Reg) (s : State) : Result :=
  s.countDraw.writeX rt (Config.cop0Read s.draws)

/-- MTC0 (R223, D7): changes no modelled state. -/
def execMtc0 (_rt _rd : Reg) (s : State) : Result := .next s.retire

/-- The flag register that `rd` selects, as 16 bits (R224, D11): VCO, VCC, VCE, VCE. -/
def State.flagReg (s : State) (rd : Reg) : BitVec 16 :=
  match (rd &&& 3).toNat with
  | 0 => s.vco
  | 1 => s.vcc
  | _ => s.vce.setWidth 16

/-- Write the flag register that `rd` selects (R225, D11). -/
def State.setFlagReg (s : State) (rd : Reg) (v : Word) : State :=
  match (rd &&& 3).toNat with
  | 0 => { s with vco := v.extractLsb' 0 16 }
  | 1 => { s with vcc := v.extractLsb' 0 16 }
  | _ => { s with vce := v.extractLsb' 0 8 }

/-- CFC2 (R224): the 16-bit value is sign-extended. -/
def execCfc2 (rt rd : Reg) (s : State) : Result := s.writeX rt ((s.flagReg rd).signExtend 32)

/-- CTC2 (R225). -/
def execCtc2 (rt rd : Reg) (s : State) : Result := .next (s.setFlagReg rd (s.x rt)).retire

/-- MFC2 (R226): bytes `e` and `(e+1) & 15`, sign-extended. -/
def execMfc2 (rt rd : Reg) (e : Elem) (s : State) : Result :=
  s.writeX rt ((s.vbyte rd e ++ s.vbyte rd (e + 1)).signExtend 32)

/-- MTC2 (R227): bytes `e` and, if `e < 15`, `e+1`; no wrap to byte 0. -/
def execMtc2 (rt rd : Reg) (e : Elem) (s : State) : Result :=
  .next (s.setVbytes rd fun k =>
    if k.toNat = e.toNat then some ((s.x rt).extractLsb' 8 8)
    else if k.toNat = e.toNat + 1 then some ((s.x rt).extractLsb' 0 8)
    else none).retire

end Sys2Proof.Machine
end

