-- ==== Sys2Proof/Machine/ScalarBranch.lean ====
section
/-! DEFINITION. Jumps and branches (41_scalar_branch.md, R180-R196), for both values of DELAY_SLOT.

The condition, the target and the link value are computed from the state before the instruction; the link
register is written before the delay slot runs (R182). -/

namespace Sys2Proof.Machine

/-- The link register of JAL, BLTZAL and BGEZAL. -/
def linkReg : Reg := 31

/-- The cycle of a control transfer that writes no register (R180, R183). -/
def State.jump (s : State) (taken : Bool) (target : RegionAddr) : Result :=
  s.unlessInSlot (s.transfer taken target)

/-- The cycle of a control transfer that writes the link value to `rd` (R182, R183). -/
def State.jumpAndLink (s : State) (rd : Reg) (taken : Bool) (target : RegionAddr) : Result :=
  s.unlessInSlot ((s.setX rd (s.link.setWidth 32)).transfer taken target)

/-- J (R185). -/
def execJ (target : BitVec 26) (s : State) : Result := s.jump true (jumpTarget target)
/-- JAL (R186). -/
def execJal (target : BitVec 26) (s : State) : Result :=
  s.jumpAndLink linkReg true (jumpTarget target)
/-- JR (R187). -/
def execJr (rs : Reg) (s : State) : Result := s.jump true (registerTarget (s.x rs))
/-- JALR (R188, D20): `x[rs]` is read before the link is written. -/
def execJalr (rd rs : Reg) (s : State) : Result :=
  s.jumpAndLink rd true (registerTarget (s.x rs))

/-- BEQ (R189). -/
def execBeq (rs rt : Reg) (imm : BitVec 16) (s : State) : Result :=
  s.jump (s.x rs == s.x rt) (s.branchTarget imm)
/-- BNE (R190). -/
def execBne (rs rt : Reg) (imm : BitVec 16) (s : State) : Result :=
  s.jump (s.x rs != s.x rt) (s.branchTarget imm)
/-- BLEZ (R191). -/
def execBlez (rs : Reg) (imm : BitVec 16) (s : State) : Result :=
  s.jump (decide ((s.x rs).toInt ≤ 0)) (s.branchTarget imm)
/-- BGTZ (R192). -/
def execBgtz (rs : Reg) (imm : BitVec 16) (s : State) : Result :=
  s.jump (decide (0 < (s.x rs).toInt)) (s.branchTarget imm)
/-- BLTZ (R193). -/
def execBltz (rs : Reg) (imm : BitVec 16) (s : State) : Result :=
  s.jump (decide ((s.x rs).toInt < 0)) (s.branchTarget imm)
/-- BGEZ (R194). -/
def execBgez (rs : Reg) (imm : BitVec 16) (s : State) : Result :=
  s.jump (decide (0 ≤ (s.x rs).toInt)) (s.branchTarget imm)
/-- BLTZAL (R195): the link is written whether the branch is taken or not. -/
def execBltzal (rs : Reg) (imm : BitVec 16) (s : State) : Result :=
  s.jumpAndLink linkReg (decide ((s.x rs).toInt < 0)) (s.branchTarget imm)
/-- BGEZAL (R196): the link is written whether the branch is taken or not. -/
def execBgezal (rs : Reg) (imm : BitVec 16) (s : State) : Result :=
  s.jumpAndLink linkReg (decide (0 ≤ (s.x rs).toInt)) (s.branchTarget imm)

end Sys2Proof.Machine
end

