-- ==== Sys2Proof/Machine/ScalarLoadStore.lean ====
section
/-! DEFINITION. Scalar loads and stores (42_scalar_loadstore.md, R200-R212): base plus displacement, no
alignment, big-endian, every byte address taken mod 4096. -/

namespace Sys2Proof.Machine

/-- LB (R203). -/
def execLb (rt : Reg) (imm : BitVec 16) (base : Reg) (s : State) : Result :=
  s.writeX rt ((s.memRead (s.ea base imm) 1).signExtend 32)
/-- LH (R204). -/
def execLh (rt : Reg) (imm : BitVec 16) (base : Reg) (s : State) : Result :=
  s.writeX rt ((s.memRead (s.ea base imm) 2).signExtend 32)
/-- LW (R205). -/
def execLw (rt : Reg) (imm : BitVec 16) (base : Reg) (s : State) : Result :=
  s.writeX rt (s.memRead (s.ea base imm) 4)
/-- LBU (R206). -/
def execLbu (rt : Reg) (imm : BitVec 16) (base : Reg) (s : State) : Result :=
  s.writeX rt ((s.memRead (s.ea base imm) 1).setWidth 32)
/-- LHU (R207). -/
def execLhu (rt : Reg) (imm : BitVec 16) (base : Reg) (s : State) : Result :=
  s.writeX rt ((s.memRead (s.ea base imm) 2).setWidth 32)
/-- LWU (R208): as LW, the registers having 32 bits. -/
def execLwu (rt : Reg) (imm : BitVec 16) (base : Reg) (s : State) : Result :=
  s.writeX rt (s.memRead (s.ea base imm) 4)

/-- SB (R209). -/
def execSb (rt : Reg) (imm : BitVec 16) (base : Reg) (s : State) : Result :=
  .next (s.memWrite (s.ea base imm) 1 ((s.x rt).extractLsb' 0 8)).retire
/-- SH (R210). -/
def execSh (rt : Reg) (imm : BitVec 16) (base : Reg) (s : State) : Result :=
  .next (s.memWrite (s.ea base imm) 2 ((s.x rt).extractLsb' 0 16)).retire
/-- SW (R211). -/
def execSw (rt : Reg) (imm : BitVec 16) (base : Reg) (s : State) : Result :=
  .next (s.memWrite (s.ea base imm) 4 (s.x rt)).retire

end Sys2Proof.Machine
end

