-- ==== Sys2Proof/Machine/VectorMultiply.lean ====
section
/-! DEFINITION. Vector multiply and multiply-accumulate (44_vector_multiply.md, R240-R258).

Each meaning computes every lane from the state before the instruction, in exact integers, and narrows at
the end (R240, R241).  The names `a`, `au`, `b`, `bu`, `A` are the rules'. -/

namespace Sys2Proof.Machine

/-- `a = s16(vr[vs].lane[j])`. -/
def State.laneA (s : State) (vs : Reg) (j : Fin 8) : Int := (s.lane vs j).toInt
/-- `au = u16(vr[vs].lane[j])`. -/
def State.laneAu (s : State) (vs : Reg) (j : Fin 8) : Int := u16 (s.lane vs j)
/-- `b = s16(vte[j])`. -/
def State.laneB (s : State) (vt : Reg) (e : Elem) (j : Fin 8) : Int := (s.vte vt e j).toInt
/-- `bu = u16(vte[j])`. -/
def State.laneBu (s : State) (vt : Reg) (e : Elem) (j : Fin 8) : Int := u16 (s.vte vt e j)
/-- `A = s48(acc[j])` (R42). -/
def State.accInt (s : State) (j : Fin 8) : Int := (s.accLane j).toInt

/-- All 8 lanes of `acc` and of `vr[vd]` are written, and no flag (R241). -/
def State.setAccAndVreg (s : State) (vd : Reg) (acc : Fin 8 → AccLane) (res : Fin 8 → Half) : State :=
  { s.setVreg vd (Vector.ofFn res) with acc := Vector.ofFn acc }

/-- The cycle of a multiply: the exact value of each accumulator lane, and the clamp that gives the
destination lane from it. -/
def State.multiply (s : State) (vd : Reg) (acc : Fin 8 → Int) (clamp : AccLane → Half) : Result :=
  .next (s.setAccAndVreg vd (fun j => trunc48 (acc j)) (fun j => clamp (trunc48 (acc j)))).retire

/-- VMULF (R242). -/
def execVmulf (vd vs vt : Reg) (e : Elem) (s : State) : Result :=
  s.multiply vd (fun j => 2 * s.laneA vs j * s.laneB vt e j + 0x8000) clampS
/-- VMULU (R243). -/
def execVmulu (vd vs vt : Reg) (e : Elem) (s : State) : Result :=
  s.multiply vd (fun j => 2 * s.laneA vs j * s.laneB vt e j + 0x8000) clampU

/-- The product of VMULQ (R244): a negative one is moved up by 31. -/
def mulqProduct (a b : Int) : Int := if a * b < 0 then a * b + 31 else a * b

/-- `sat16(x >> 1) & 0xFFF0`, the destination of VMULQ and VMACQ (R244, R253). -/
def quantized (x : Int) : Half := sat16 (x / 2) &&& 0xFFF0

/-- VMULQ (R244). -/
def execVmulq (vd vs vt : Reg) (e : Elem) (s : State) : Result :=
  let p := fun j => mulqProduct (s.laneA vs j) (s.laneB vt e j)
  .next (s.setAccAndVreg vd (fun j => trunc48 (p j * 2 ^ 16)) (fun j => quantized (p j))).retire

/-- VMUDL (R245): the high half of an unsigned product. -/
def execVmudl (vd vs vt : Reg) (e : Elem) (s : State) : Result :=
  s.multiply vd (fun j => s.laneAu vs j * s.laneBu vt e j / 2 ^ 16) (fun acc => acc.extractLsb' 0 16)
/-- VMUDM (R246). -/
def execVmudm (vd vs vt : Reg) (e : Elem) (s : State) : Result :=
  s.multiply vd (fun j => s.laneA vs j * s.laneBu vt e j) (fun acc => acc.extractLsb' 16 16)
/-- VMUDN (R247). -/
def execVmudn (vd vs vt : Reg) (e : Elem) (s : State) : Result :=
  s.multiply vd (fun j => s.laneAu vs j * s.laneB vt e j) (fun acc => acc.extractLsb' 0 16)
/-- VMUDH (R248). -/
def execVmudh (vd vs vt : Reg) (e : Elem) (s : State) : Result :=
  s.multiply vd (fun j => s.laneA vs j * s.laneB vt e j * 2 ^ 16) clampS

/-- `r` of VRNDP and VRNDN (R249): `b`, shifted left 16 when the selector is 1. -/
def State.roundTerm (s : State) (sh : BitVec 1) (vt : Reg) (e : Elem) (j : Fin 8) : Int :=
  s.laneB vt e j * 2 ^ (16 * sh.toNat)

/-- VRNDP (R249). -/
def execVrndp (vd : Reg) (sh : BitVec 1) (vt : Reg) (e : Elem) (s : State) : Result :=
  s.multiply vd
    (fun j => if 0 ≤ s.accInt j then s.accInt j + s.roundTerm sh vt e j else s.accInt j) clampS
/-- VRNDN (R250). -/
def execVrndn (vd : Reg) (sh : BitVec 1) (vt : Reg) (e : Elem) (s : State) : Result :=
  s.multiply vd
    (fun j => if s.accInt j < 0 then s.accInt j + s.roundTerm sh vt e j else s.accInt j) clampS

/-- VMACF (R251). -/
def execVmacf (vd vs vt : Reg) (e : Elem) (s : State) : Result :=
  s.multiply vd (fun j => s.accInt j + 2 * s.laneA vs j * s.laneB vt e j) clampS
/-- VMACU (R252). -/
def execVmacu (vd vs vt : Reg) (e : Elem) (s : State) : Result :=
  s.multiply vd (fun j => s.accInt j + 2 * s.laneA vs j * s.laneB vt e j) clampU

/-- The new `acc[47:16]` of VMACQ (R253); bit 5 of `q` is tested on its 32-bit pattern. -/
def oddified (q : BitVec 32) : Int :=
  if q.toInt < 0 ∧ q.getLsbD 5 = false then q.toInt + 32
  else if 32 ≤ q.toInt ∧ q.getLsbD 5 = false then q.toInt - 32
  else q.toInt

/-- VMACQ (R253): `vs`, `vt` and `e` are not read; ACC_LO is unchanged. -/
def execVmacq (vd _vs _vt : Reg) (_e : Elem) (s : State) : Result :=
  let q := fun j => oddified ((s.accLane j).extractLsb' 16 32)
  .next (s.setAccAndVreg vd (fun j => BitVec.ofInt 32 (q j) ++ (s.accLane j).extractLsb' 0 16)
    (fun j => quantized (q j))).retire

/-- VMADL (R254). -/
def execVmadl (vd vs vt : Reg) (e : Elem) (s : State) : Result :=
  s.multiply vd (fun j => s.accInt j + s.laneAu vs j * s.laneBu vt e j / 2 ^ 16) clampL
/-- VMADM (R255). -/
def execVmadm (vd vs vt : Reg) (e : Elem) (s : State) : Result :=
  s.multiply vd (fun j => s.accInt j + s.laneA vs j * s.laneBu vt e j) clampS
/-- VMADN (R256). -/
def execVmadn (vd vs vt : Reg) (e : Elem) (s : State) : Result :=
  s.multiply vd (fun j => s.accInt j + s.laneAu vs j * s.laneB vt e j) clampL
/-- VMADH (R257). -/
def execVmadh (vd vs vt : Reg) (e : Elem) (s : State) : Result :=
  s.multiply vd (fun j => s.accInt j + s.laneA vs j * s.laneB vt e j * 2 ^ 16) clampS

end Sys2Proof.Machine
end

