-- ==== Sys2Proof/Machine/VectorAddLogic.lean ====
section
/-! DEFINITION. Vector add, subtract, absolute value, accumulator read, logic and the reserved opcodes
(45_vector_add_logic.md, R280-R296).  All but VSAR write only the ACC_LO plane (R280). -/

namespace Sys2Proof.Machine

/-- ACC_LO and `vr[vd]` are written lane by lane; ACC_HI and ACC_MD are unchanged (R280, R310). -/
def State.setLoAndVreg (s : State) (vd : Reg) (lo res : Fin 8 → Half) : State :=
  { s.setVreg vd (Vector.ofFn res) with acc := Vector.ofFn fun j => withLo (s.accLane j) (lo j) }

/-- The exact sum of VADD (R281). -/
def State.addSum (s : State) (vs vt : Reg) (e : Elem) (j : Fin 8) : Int :=
  s.laneA vs j + s.laneB vt e j + flagInt (s.carry j)
/-- The exact difference of VSUB (R282). -/
def State.subDiff (s : State) (vs vt : Reg) (e : Elem) (j : Fin 8) : Int :=
  s.laneA vs j - s.laneB vt e j - flagInt (s.carry j)

/-- VADD (R281). -/
def execVadd (vd vs vt : Reg) (e : Elem) (s : State) : Result :=
  .next (s.setLoAndVreg vd (fun j => trunc16 (s.addSum vs vt e j))
    (fun j => sat16 (s.addSum vs vt e j))).clearVco.retire
/-- VSUB (R282). -/
def execVsub (vd vs vt : Reg) (e : Elem) (s : State) : Result :=
  .next (s.setLoAndVreg vd (fun j => trunc16 (s.subDiff vs vt e j))
    (fun j => sat16 (s.subDiff vs vt e j))).clearVco.retire

/-- ACC_LO of VABS (R283). -/
def absLo (a b : Half) : Half :=
  if a.toInt < 0 then trunc16 (-b.toInt) else if a.toInt = 0 then 0x0000 else b
/-- The destination of VABS (R283): ACC_LO, but for the negation of -32768. -/
def absRes (a b : Half) : Half :=
  if a.toInt < 0 ∧ b.toInt = -32768 then 0x7FFF else absLo a b

/-- VABS (R283). -/
def execVabs (vd vs vt : Reg) (e : Elem) (s : State) : Result :=
  .next (s.setLoAndVreg vd (fun j => absLo (s.lane vs j) (s.vte vt e j))
    (fun j => absRes (s.lane vs j) (s.vte vt e j))).retire

/-- VADDC (R284): unsaturated; the carry-out goes to VCO, the not-equal bits are cleared. -/
def execVaddc (vd vs vt : Reg) (e : Elem) (s : State) : Result :=
  let r := fun j => s.laneAu vs j + s.laneBu vt e j
  .next { s.setLoAndVreg vd (fun j => trunc16 (r j)) (fun j => trunc16 (r j)) with
    vco := flagPair (fun _ => false) (fun j => decide (0xFFFF < r j)) }.retire
/-- VSUBC (R285): unsaturated; the borrow-out and the not-equal bits go to VCO. -/
def execVsubc (vd vs vt : Reg) (e : Elem) (s : State) : Result :=
  let r := fun j => s.laneAu vs j - s.laneBu vt e j
  .next { s.setLoAndVreg vd (fun j => trunc16 (r j)) (fun j => trunc16 (r j)) with
    vco := flagPair (fun j => decide (r j ≠ 0)) (fun j => decide (r j < 0)) }.retire

/-- The plane VSAR reads (R286): e = 8, 9, 10 are HI, MD, LO; every other `e` gives 0. -/
def accPlane (a : AccLane) (e : Elem) : Half :=
  match e.toNat with
  | 8 => a.extractLsb' 32 16
  | 9 => a.extractLsb' 16 16
  | 10 => a.extractLsb' 0 16
  | _ => 0x0000

/-- VSAR (R286): the accumulator and the flags are unchanged. -/
def execVsar (vd : Reg) (e : Elem) (s : State) : Result :=
  .next (s.setVreg vd (Vector.ofFn fun j => accPlane (s.accLane j) e)).retire

/-- The cycle of a lane-wise instruction whose one value per lane goes to ACC_LO and to `vr[vd]`. -/
def State.lanewise (s : State) (vd : Reg) (res : Fin 8 → Half) : Result :=
  .next (s.setLoAndVreg vd res res).retire

/-- VAND (R287). -/
def execVand (vd vs vt : Reg) (e : Elem) (s : State) : Result :=
  s.lanewise vd fun j => s.lane vs j &&& s.vte vt e j
/-- VNAND (R288). -/
def execVnand (vd vs vt : Reg) (e : Elem) (s : State) : Result :=
  s.lanewise vd fun j => ~~~(s.lane vs j &&& s.vte vt e j)
/-- VOR (R289). -/
def execVor (vd vs vt : Reg) (e : Elem) (s : State) : Result :=
  s.lanewise vd fun j => s.lane vs j ||| s.vte vt e j
/-- VNOR (R290). -/
def execVnor (vd vs vt : Reg) (e : Elem) (s : State) : Result :=
  s.lanewise vd fun j => ~~~(s.lane vs j ||| s.vte vt e j)
/-- VXOR (R291). -/
def execVxor (vd vs vt : Reg) (e : Elem) (s : State) : Result :=
  s.lanewise vd fun j => s.lane vs j ^^^ s.vte vt e j
/-- VNXOR (R292). -/
def execVnxor (vd vs vt : Reg) (e : Elem) (s : State) : Result :=
  s.lanewise vd fun j => ~~~(s.lane vs j ^^^ s.vte vt e j)

/-- What a reserved vector opcode does under each value of RESERVED_VU (R295, D8): VZERO or nothing. -/
def State.reserved (s : State) (vd vs vt : Reg) (e : Elem) : State :=
  match s.cfg.reservedVu with
  | .vzero => s.setLoAndVreg vd (fun j => trunc16 (s.laneA vs j + s.laneB vt e j)) (fun _ => 0x0000)
  | .nop => s

/-- VRSVD_12 (R295). -/
def execVrsvd12 (vd vs vt : Reg) (e : Elem) (s : State) : Result :=
  .next (s.reserved vd vs vt e).retire
/-- VRSVD_16 (R295). -/
def execVrsvd16 (vd vs vt : Reg) (e : Elem) (s : State) : Result :=
  .next (s.reserved vd vs vt e).retire
/-- VRSVD_17 (R295). -/
def execVrsvd17 (vd vs vt : Reg) (e : Elem) (s : State) : Result :=
  .next (s.reserved vd vs vt e).retire
/-- VRSVD_18 (R295). -/
def execVrsvd18 (vd vs vt : Reg) (e : Elem) (s : State) : Result :=
  .next (s.reserved vd vs vt e).retire
/-- VRSVD_19 (R295). -/
def execVrsvd19 (vd vs vt : Reg) (e : Elem) (s : State) : Result :=
  .next (s.reserved vd vs vt e).retire
/-- VRSVD_1A (R295). -/
def execVrsvd1a (vd vs vt : Reg) (e : Elem) (s : State) : Result :=
  .next (s.reserved vd vs vt e).retire
/-- VRSVD_1B (R295). -/
def execVrsvd1b (vd vs vt : Reg) (e : Elem) (s : State) : Result :=
  .next (s.reserved vd vs vt e).retire
/-- VRSVD_1C (R295). -/
def execVrsvd1c (vd vs vt : Reg) (e : Elem) (s : State) : Result :=
  .next (s.reserved vd vs vt e).retire
/-- VRSVD_1E (R295). -/
def execVrsvd1e (vd vs vt : Reg) (e : Elem) (s : State) : Result :=
  .next (s.reserved vd vs vt e).retire
/-- VRSVD_1F (R295). -/
def execVrsvd1f (vd vs vt : Reg) (e : Elem) (s : State) : Result :=
  .next (s.reserved vd vs vt e).retire
/-- VRSVD_2E (R295). -/
def execVrsvd2e (vd vs vt : Reg) (e : Elem) (s : State) : Result :=
  .next (s.reserved vd vs vt e).retire
/-- VRSVD_2F (R295). -/
def execVrsvd2f (vd vs vt : Reg) (e : Elem) (s : State) : Result :=
  .next (s.reserved vd vs vt e).retire
/-- VRSVD_38 (R295). -/
def execVrsvd38 (vd vs vt : Reg) (e : Elem) (s : State) : Result :=
  .next (s.reserved vd vs vt e).retire
/-- VRSVD_39 (R295). -/
def execVrsvd39 (vd vs vt : Reg) (e : Elem) (s : State) : Result :=
  .next (s.reserved vd vs vt e).retire
/-- VRSVD_3A (R295). -/
def execVrsvd3a (vd vs vt : Reg) (e : Elem) (s : State) : Result :=
  .next (s.reserved vd vs vt e).retire
/-- VRSVD_3B (R295). -/
def execVrsvd3b (vd vs vt : Reg) (e : Elem) (s : State) : Result :=
  .next (s.reserved vd vs vt e).retire
/-- VRSVD_3C (R295). -/
def execVrsvd3c (vd vs vt : Reg) (e : Elem) (s : State) : Result :=
  .next (s.reserved vd vs vt e).retire
/-- VRSVD_3D (R295). -/
def execVrsvd3d (vd vs vt : Reg) (e : Elem) (s : State) : Result :=
  .next (s.reserved vd vs vt e).retire
/-- VRSVD_3E (R295). -/
def execVrsvd3e (vd vs vt : Reg) (e : Elem) (s : State) : Result :=
  .next (s.reserved vd vs vt e).retire

end Sys2Proof.Machine
end

