-- ==== Sys2Proof/Machine/VectorCompare.lean ====
section
/-! DEFINITION. Vector compare, clip and merge (46_vector_compare_select.md, R310-R318).

`c`, `n`, `cmp`, `clip` and `ce` of the rules are `State.carry`, `notEqual`, `cmp`, `clip` and `ext`; all
are read from the state before the instruction (R240). -/

namespace Sys2Proof.Machine

/-- The cycle of VLT, VEQ, VNE and VGE: `VCC[j]` is the comparison, `VCC[8+j]` and VCO are cleared, and the
comparison selects between `vs` and `vte` (R311-R314). -/
def State.compare (s : State) (vd vs vt : Reg) (e : Elem) (test : Fin 8 → Bool) : Result :=
  let res := fun j => if test j then s.lane vs j else s.vte vt e j
  .next { s.setLoAndVreg vd res res with
    vcc := flagPair (fun _ => false) test
    vco := 0 }.retire

/-- VLT (R311). -/
def execVlt (vd vs vt : Reg) (e : Elem) (s : State) : Result :=
  s.compare vd vs vt e fun j =>
    decide (s.laneA vs j < s.laneB vt e j) ||
      (decide (s.laneA vs j = s.laneB vt e j) && s.notEqual j && s.carry j)
/-- VEQ (R312). -/
def execVeq (vd vs vt : Reg) (e : Elem) (s : State) : Result :=
  s.compare vd vs vt e fun j => decide (s.laneA vs j = s.laneB vt e j) && !s.notEqual j
/-- VNE (R313). -/
def execVne (vd vs vt : Reg) (e : Elem) (s : State) : Result :=
  s.compare vd vs vt e fun j => decide (s.laneA vs j ≠ s.laneB vt e j) || s.notEqual j
/-- VGE (R314). -/
def execVge (vd vs vt : Reg) (e : Elem) (s : State) : Result :=
  s.compare vd vs vt e fun j =>
    decide (s.laneB vt e j < s.laneA vs j) ||
      (decide (s.laneA vs j = s.laneB vt e j) && !(s.notEqual j && s.carry j))

/-! ### VCH (R315) -/

/-- `sign`: the operands have opposite signs (R315, R317). -/
def clipSign (a b : Int) : Bool := decide (a < 0) != decide (b < 0)
/-- `s`: the sum of operands of opposite signs, else the difference. -/
def chSum (a b : Int) : Int := if clipSign a b then a + b else a - b
/-- `le` of VCH. -/
def chLe (a b : Int) : Bool := if clipSign a b then decide (chSum a b ≤ 0) else decide (b < 0)
/-- `ge` of VCH. -/
def chGe (a b : Int) : Bool := if clipSign a b then decide (b < 0) else decide (0 ≤ chSum a b)
/-- `ext` of VCH. -/
def chExt (a b : Int) : Bool := clipSign a b && decide (chSum a b = -1)
/-- `ne` of VCH. -/
def chNe (a b : Int) : Bool := decide (chSum a b ≠ 0) && !chExt a b
/-- `res` of VCH. -/
def chRes (a b : Half) : Half :=
  if clipSign a.toInt b.toInt then
    if chLe a.toInt b.toInt then trunc16 (-b.toInt) else a
  else if chGe a.toInt b.toInt then b else a

/-- VCH (R315): every flag register is written. -/
def execVch (vd vs vt : Reg) (e : Elem) (s : State) : Result :=
  let res := fun j => chRes (s.lane vs j) (s.vte vt e j)
  .next { s.setLoAndVreg vd res res with
    vcc := flagPair (fun j => chGe (s.laneA vs j) (s.laneB vt e j))
      (fun j => chLe (s.laneA vs j) (s.laneB vt e j))
    vco := flagPair (fun j => chNe (s.laneA vs j) (s.laneB vt e j))
      (fun j => clipSign (s.laneA vs j) (s.laneB vt e j))
    vce := laneBits fun j => chExt (s.laneA vs j) (s.laneB vt e j) }.retire

/-! ### VCL (R316) -/

/-- `le` of VCL, in a lane whose carry is set. -/
def State.clLe (s : State) (vs vt : Reg) (e : Elem) (j : Fin 8) : Bool :=
  let sum := s.laneAu vs j + s.laneBu vt e j
  let carry := decide (0xFFFF < sum)
  let zero := trunc16 sum == 0
  if s.notEqual j then s.cmp j
  else if s.ext j then zero || !carry else zero && !carry
/-- `ge` of VCL, in a lane whose carry is clear. -/
def State.clGe (s : State) (vs vt : Reg) (e : Elem) (j : Fin 8) : Bool :=
  if s.notEqual j then s.clip j else decide (s.laneBu vt e j ≤ s.laneAu vs j)
/-- `res` of VCL. -/
def State.clRes (s : State) (vs vt : Reg) (e : Elem) (j : Fin 8) : Half :=
  if s.carry j then
    if s.clLe vs vt e j then trunc16 (-(s.laneBu vt e j)) else s.lane vs j
  else if s.clGe vs vt e j then s.vte vt e j else s.lane vs j

/-- VCL (R316): the carry of a lane says which of its two VCC bits is written. -/
def execVcl (vd vs vt : Reg) (e : Elem) (s : State) : Result :=
  .next { s.setLoAndVreg vd (s.clRes vs vt e) (s.clRes vs vt e) with
    vcc := flagPair (fun j => if s.carry j then s.clip j else s.clGe vs vt e j)
      (fun j => if s.carry j then s.clLe vs vt e j else s.cmp j)
    vco := 0
    vce := 0 }.retire

/-! ### VCR (R317) -/

/-- `le` of VCR. -/
def crLe (a b : Int) : Bool := if clipSign a b then decide (a + b + 1 ≤ 0) else decide (b < 0)
/-- `ge` of VCR. -/
def crGe (a b : Int) : Bool := if clipSign a b then decide (b < 0) else decide (0 ≤ a - b)
/-- `res` of VCR: the one's complement of `vte` when clipped below. -/
def crRes (a b : Half) : Half :=
  if clipSign a.toInt b.toInt then
    if crLe a.toInt b.toInt then ~~~b else a
  else if crGe a.toInt b.toInt then b else a

/-- VCR (R317). -/
def execVcr (vd vs vt : Reg) (e : Elem) (s : State) : Result :=
  let res := fun j => crRes (s.lane vs j) (s.vte vt e j)
  .next { s.setLoAndVreg vd res res with
    vcc := flagPair (fun j => crGe (s.laneA vs j) (s.laneB vt e j))
      (fun j => crLe (s.laneA vs j) (s.laneB vt e j))
    vco := 0
    vce := 0 }.retire

/-! ### VMRG (R318) -/

/-- VMRG (R318, D28): VCO is cleared when VMRG_CLEARS_VCO. -/
def execVmrg (vd vs vt : Reg) (e : Elem) (s : State) : Result :=
  let res := fun j => if s.cmp j then s.lane vs j else s.vte vt e j
  .next { s.setLoAndVreg vd res res with
    vco := if s.cfg.vmrgClearsVco then 0 else s.vco }.retire

end Sys2Proof.Machine
end

