-- ==== Sys2Proof/Machine/VectorLoadStore.lean ====
section
/-! DEFINITION. Vector loads and stores (48_vector_loadstore.md, R370-R391).

A load is the function from the bytes of `vt` to the memory bytes they take; a store is the list, by
position, of the addresses and bytes it writes.  Both are computed from the state before the instruction. -/

namespace Sys2Proof.Machine

/-! ### Loads (LWC2) -/

/-- The cycle of a load that writes the bytes of `vt` that `f` gives (R371). -/
def State.loadVbytes (s : State) (vt : Reg) (f : Elem → Option Byte) : Result :=
  .next (s.setVbytes vt f).retire

/-- Bytes `e .. min(e+n, 16)-1` from the `n` bytes at `addr`, without wrapping in the register (R373). -/
def State.loadRun (s : State) (n : Nat) (e : Elem) (addr : Word) (k : Elem) : Option Byte :=
  if e.toNat ≤ k.toNat ∧ k.toNat < e.toNat + n then
    some (s.dm (addr + BitVec.ofNat 32 (k.toNat - e.toNat)))
  else none

/-- LBV (R372). -/
def execLbv (vt : Reg) (e : Elem) (offset : BitVec 7) (base : Reg) (s : State) : Result :=
  s.loadVbytes vt (s.loadRun 1 e (s.vaddr base offset 1))
/-- LSV (R373). -/
def execLsv (vt : Reg) (e : Elem) (offset : BitVec 7) (base : Reg) (s : State) : Result :=
  s.loadVbytes vt (s.loadRun 2 e (s.vaddr base offset 2))
/-- LLV (R373). -/
def execLlv (vt : Reg) (e : Elem) (offset : BitVec 7) (base : Reg) (s : State) : Result :=
  s.loadVbytes vt (s.loadRun 4 e (s.vaddr base offset 4))
/-- LDV (R373). -/
def execLdv (vt : Reg) (e : Elem) (offset : BitVec 7) (base : Reg) (s : State) : Result :=
  s.loadVbytes vt (s.loadRun 8 e (s.vaddr base offset 8))

/-- `addr & 15` as a number. -/
def quadOffset (addr : Word) : Nat := (addr &&& 15).toNat

/-- LQV (R374): up to the next 16-byte boundary of memory, or the end of the register. -/
def execLqv (vt : Reg) (e : Elem) (offset : BitVec 7) (base : Reg) (s : State) : Result :=
  let addr := s.vaddr base offset 16
  s.loadVbytes vt (s.loadRun (16 - quadOffset addr) e addr)

/-- LRV (R375): from the 16-byte boundary below `addr`, into the bytes from `start`. -/
def execLrv (vt : Reg) (e : Elem) (offset : BitVec 7) (base : Reg) (s : State) : Result :=
  let addr := s.vaddr base offset 16
  let start := 16 + e.toNat - quadOffset addr
  s.loadVbytes vt fun k =>
    if start ≤ k.toNat then some (s.dm (quadBase addr + BitVec.ofNat 32 (k.toNat - start))) else none

/-- The cycle of a load that writes every lane of `vt` with a byte of the window at `addr & ~7`, shifted
left: lane `i` takes byte `(index + step*i) mod 16` (R376-R378). -/
def State.loadPacked (s : State) (vt : Reg) (e : Elem) (addr : Word) (step shift : Nat) : Result :=
  .next (s.setVreg vt (Vector.ofFn fun i =>
    (s.dm (windowByte (windowBase addr) (packedIndex addr e + BitVec.ofNat 4 (step * i)))).setWidth 16
      <<< shift)).retire

/-- LPV (R376). -/
def execLpv (vt : Reg) (e : Elem) (offset : BitVec 7) (base : Reg) (s : State) : Result :=
  s.loadPacked vt e (s.vaddr base offset 8) 1 8
/-- LUV (R377). -/
def execLuv (vt : Reg) (e : Elem) (offset : BitVec 7) (base : Reg) (s : State) : Result :=
  s.loadPacked vt e (s.vaddr base offset 8) 1 7
/-- LHV (R378). -/
def execLhv (vt : Reg) (e : Elem) (offset : BitVec 7) (base : Reg) (s : State) : Result :=
  s.loadPacked vt e (s.vaddr base offset 16) 2 7

/-- `tmp` of LFV (R379): lane `i` takes byte `(index + 4i) mod 16`, lane `i+4` byte
`(index + 4i + 8) mod 16`. -/
def State.fourthTmp (s : State) (e : Elem) (addr : Word) : VReg :=
  Vector.ofFn fun i =>
    (s.dm (windowByte (windowBase addr)
      (packedIndex addr e + BitVec.ofNat 4 (if i.val < 4 then 4 * i else 4 * (i - 4) + 8)))).setWidth 16
      <<< 7

/-- LFV (R379): bytes `e .. min(e+8, 16)-1` of `tmp`. -/
def execLfv (vt : Reg) (e : Elem) (offset : BitVec 7) (base : Reg) (s : State) : Result :=
  let tmp := s.fourthTmp e (s.vaddr base offset 16)
  s.loadVbytes vt fun k =>
    if e.toNat ≤ k.toNat ∧ k.toNat < e.toNat + 8 then some (VReg.byte tmp k) else none

/-- LWV (R380, D9): the register takes a draw LWV_RESULT, a free value of its own at each execution. -/
def execLwv (vt : Reg) (_e : Elem) (_offset : BitVec 7) (_base : Reg) (s : State) : Result :=
  .next (s.countDraw.setVreg vt (VReg.ofBits (Config.lwvResult s.draws))).retire

/-- Where LTV finds byte `m` of the sixteen it reads (R381): from `begin + ((e + (addr & 8)) & 15)` on,
wrapping inside the window at `begin`. -/
def transposedByte (addr : Word) (e : Elem) (m : Nat) : Word :=
  windowByte (windowBase addr) (e + (addr &&& 8).setWidth 4 + BitVec.ofNat 4 m)

/-- The lane of register `n` that LTV writes: the `i` with `((e >> 1) + i) & 7 = n & 7` (R381). -/
def transposedLane (e : Elem) (n : Nat) : Fin 8 := Fin.ofNat 8 (n % 8 + 8 - e.toNat / 2)

/-- LTV (R381): each of the 8 registers of the group of `vt` has one lane written. -/
def execLtv (vt : Reg) (e : Elem) (offset : BitVec 7) (base : Reg) (s : State) : Result :=
  let addr := s.vaddr base offset 16
  .next { s with
    vr := Vector.ofFn fun n =>
      if n.val / 8 = vt.toNat / 8 then
        let i := transposedLane e n
        s.vr[n].set i (s.dm (transposedByte addr e (2 * i)) ++ s.dm (transposedByte addr e (2 * i + 1)))
      else s.vr[n] }.retire

/-! ### Stores (SWC2) -/

/-- The cycle of a store of `n` bytes (R371). -/
def State.storeVbytes (s : State) (n : Nat) (addr : Nat → Word) (b : Nat → Byte) : Result :=
  .next (s.store n addr b).retire

/-- `vr[vt].byte[(e + k) & 15]`: a store's bytes wrap in the register (R383). -/
def State.wrappedByte (s : State) (vt : Reg) (e : Elem) (k : Nat) : Byte :=
  s.vbyte vt (e + BitVec.ofNat 4 k)

/-- Address `k` of a run of consecutive bytes. -/
def runAddr (addr : Word) (k : Nat) : Word := addr + BitVec.ofNat 32 k

/-- SBV (R382). -/
def execSbv (vt : Reg) (e : Elem) (offset : BitVec 7) (base : Reg) (s : State) : Result :=
  s.storeVbytes 1 (runAddr (s.vaddr base offset 1)) (s.wrappedByte vt e)
/-- SSV (R383). -/
def execSsv (vt : Reg) (e : Elem) (offset : BitVec 7) (base : Reg) (s : State) : Result :=
  s.storeVbytes 2 (runAddr (s.vaddr base offset 2)) (s.wrappedByte vt e)
/-- SLV (R383). -/
def execSlv (vt : Reg) (e : Elem) (offset : BitVec 7) (base : Reg) (s : State) : Result :=
  s.storeVbytes 4 (runAddr (s.vaddr base offset 4)) (s.wrappedByte vt e)
/-- SDV (R383). -/
def execSdv (vt : Reg) (e : Elem) (offset : BitVec 7) (base : Reg) (s : State) : Result :=
  s.storeVbytes 8 (runAddr (s.vaddr base offset 8)) (s.wrappedByte vt e)

/-- SQV (R384): up to the next 16-byte boundary of memory. -/
def execSqv (vt : Reg) (e : Elem) (offset : BitVec 7) (base : Reg) (s : State) : Result :=
  let addr := s.vaddr base offset 16
  s.storeVbytes (16 - quadOffset addr) (runAddr addr) (s.wrappedByte vt e)

/-- SRV (R385): from the 16-byte boundary below `addr`, the register bytes from `e + sh` on. -/
def execSrv (vt : Reg) (e : Elem) (offset : BitVec 7) (base : Reg) (s : State) : Result :=
  let addr := s.vaddr base offset 16
  s.storeVbytes (quadOffset addr) (runAddr (quadBase addr))
    (fun k => s.wrappedByte vt e (k + (16 - quadOffset addr)))

/-- The high byte of lane `o & 7` (R386). -/
def State.highByte (s : State) (vt : Reg) (o : Nat) : Byte := s.vbyte vt (BitVec.ofNat 4 (2 * (o % 8)))
/-- `trunc_8(lane >> 7)` of lane `o & 7` (R386). -/
def State.unsignedByte (s : State) (vt : Reg) (o : Nat) : Byte :=
  (s.lane vt (Fin.ofNat 8 o)).extractLsb' 7 8

/-- SPV (R386). -/
def execSpv (vt : Reg) (e : Elem) (offset : BitVec 7) (base : Reg) (s : State) : Result :=
  s.storeVbytes 8 (runAddr (s.vaddr base offset 8)) fun k =>
    if (e.toNat + k) % 16 < 8 then s.highByte vt (e.toNat + k) else s.unsignedByte vt (e.toNat + k)
/-- SUV (R387). -/
def execSuv (vt : Reg) (e : Elem) (offset : BitVec 7) (base : Reg) (s : State) : Result :=
  s.storeVbytes 8 (runAddr (s.vaddr base offset 8)) fun k =>
    if (e.toNat + k) % 16 < 8 then s.unsignedByte vt (e.toNat + k) else s.highByte vt (e.toNat + k)

/-- Address `(index + i) & 15` of the window at `addr & ~7`, with `index = addr & 7` (R388-R390). -/
def windowAddr (addr : Word) (i : Nat) : Word :=
  windowByte (windowBase addr) ((addr &&& 7).setWidth 4 + BitVec.ofNat 4 i)

/-- SHV (R388). -/
def execShv (vt : Reg) (e : Elem) (offset : BitVec 7) (base : Reg) (s : State) : Result :=
  s.storeVbytes 8 (fun k => windowAddr (s.vaddr base offset 16) (2 * k)) fun k =>
    s.wrappedByte vt e (2 * k) <<< 1 ||| s.wrappedByte vt e (2 * k + 1) >>> 7

/-- The lanes SFV stores, in order (R389); for an `e` outside the table, none. -/
def fourthLanes (e : Elem) : List (Fin 8) :=
  match e.toNat with
  | 0 => [0, 1, 2, 3]
  | 15 => [0, 1, 2, 3]
  | 1 => [6, 7, 4, 5]
  | 4 => [1, 2, 3, 0]
  | 5 => [7, 4, 5, 6]
  | 8 => [4, 5, 6, 7]
  | 11 => [3, 0, 1, 2]
  | 12 => [5, 6, 7, 4]
  | _ => []

/-- SFV (R389): where the table gives no lane, the four bytes are written with 0x00. -/
def execSfv (vt : Reg) (e : Elem) (offset : BitVec 7) (base : Reg) (s : State) : Result :=
  s.storeVbytes 4 (fun i => windowAddr (s.vaddr base offset 16) (4 * i)) fun i =>
    match (fourthLanes e)[i]? with
    | some lane => (s.lane vt lane).extractLsb' 7 8
    | none => 0x00

/-- SWV (R390). -/
def execSwv (vt : Reg) (e : Elem) (offset : BitVec 7) (base : Reg) (s : State) : Result :=
  s.storeVbytes 16 (windowAddr (s.vaddr base offset 16)) (s.wrappedByte vt e)

/-- Register `g + k` of the group of eight that `vt` lies in (R391). -/
def groupReg (vt : Reg) (k : Nat) : Reg := (vt &&& ~~~7) + BitVec.ofNat 5 k

/-- Where STV stores byte `m` of the sixteen (R391): `p & 15` of the window at `addr & ~7`, `p` counting
from `(addr & 7) - (e & ~1)`. -/
def transposedStoreAddr (addr : Word) (e : Elem) (m : Nat) : Word :=
  windowByte (windowBase addr) ((addr &&& 7).setWidth 4 - (e &&& ~~~1) + BitVec.ofNat 4 m)

/-- STV (R391): byte `m` of the sixteen comes from register `g + m/2`, from its byte
`(16 - (e & ~1) + m) & 15`. -/
def execStv (vt : Reg) (e : Elem) (offset : BitVec 7) (base : Reg) (s : State) : Result :=
  s.storeVbytes 16 (transposedStoreAddr (s.vaddr base offset 16) e)
    (fun m => s.vbyte (groupReg vt (m / 2)) (BitVec.ofNat 4 m - (e &&& ~~~1)))

end Sys2Proof.Machine
end

