-- ==== Sys2Proof/Machine/VectorSingleLane.lean ====
section
/-! DEFINITION. Vector single-lane operations (47_vector_single_lane.md, R340-R351): reciprocal, reciprocal
square root, move, and the two no-ops. -/

namespace Sys2Proof.Machine

/-- The destination lane `de & 7` (R105). -/
def destLane (de : BitVec 5) : Fin 8 := Fin.ofNat 8 de.toNat

/-- `src`: lane `e & 7` of `vr[vt]`, not through the broadcast table (47_vector_single_lane.md). -/
def State.divSource (s : State) (vt : Reg) (e : Elem) : Half := s.lane vt (Fin.ofNat 8 e.toNat)

/-- The common writes of R340: ACC_LO takes `vte` in every lane, and one lane of `vd` takes `v`. -/
def State.setSingleLane (s : State) (vd : Reg) (de : BitVec 5) (vt : Reg) (e : Elem) (v : Half) : State :=
  { s.setLane vd (destLane de) v with acc := Vector.ofFn fun j => withLo (s.accLane j) (s.vte vt e j) }

/-! ### The divide unit (R341-R349) -/

/-- `input` of R343; `low` is the rule's `L`. -/
def State.divInput (s : State) (low : Bool) (src : Half) : Word :=
  if low && s.divDp then s.divIn ++ src else src.signExtend 32

/-- `mask` of R343: `input >> 31`, 0 or -1. -/
def divMask (input : Word) : Word := input.sshiftRight 31

/-- `data` of R343: the magnitude, but the one's complement below -32768. -/
def divData (input : Word) : Word :=
  if input.toInt > -32768 then (input ^^^ divMask input) - divMask input else input ^^^ divMask input

/-- `index` of R344: bits 30:22 of the normalised input. -/
def divIndex (data : Word) : BitVec 9 := (((data <<< clz32 data) &&& 0x7FC00000) >>> 22).setWidth 9

/-- `result` of R344 and R347, with the table entry and the right shift as functions of `data`. -/
def divResult (input : Word) (entry : Word → Half) (shift : Word → Nat) : Word :=
  let data := divData input
  if data = 0 then 0x7FFFFFFF
  else if input.toInt = -32768 then 0xFFFF0000
  else (((0x10000 ||| (entry data).setWidth 32) <<< 14) >>> shift data) ^^^ divMask input

/-- `result` of R344. -/
def reciprocal (input : Word) : Word :=
  divResult input (fun data => Config.rcpRom (divIndex data)) (fun data => 31 - clz32 data)

/-- `result` of R347: the table index has the low bit of the shift for its low bit. -/
def reciprocalSqrt (input : Word) : Word :=
  divResult input
    (fun data => Config.rsqRom ((divIndex data &&& 0x1FE) ||| BitVec.ofNat 9 (clz32 data % 2)))
    (fun data => (31 - clz32 data) / 2)

/-- The cycle of VRCP, VRCPL, VRSQ and VRSQL (R344): the low half of the result goes to the lane, the high
half to DIVOUT, and DIVDP is cleared. -/
def State.divide (s : State) (f : Word → Word) (low : Bool) (vd : Reg) (de : BitVec 5) (vt : Reg)
    (e : Elem) : Result :=
  let result := f (s.divInput low (s.divSource vt e))
  .next { s.setSingleLane vd de vt e (result.extractLsb' 0 16) with
    divDp := false
    divOut := result.extractLsb' 16 16 }.retire

/-- The cycle of VRCPH and VRSQH (R346): the old DIVOUT goes to the lane, and DIVIN is loaded. -/
def State.divideHigh (s : State) (vd : Reg) (de : BitVec 5) (vt : Reg) (e : Elem) : Result :=
  .next { s.setSingleLane vd de vt e s.divOut with
    divIn := s.divSource vt e
    divDp := true }.retire

/-- VRCP (R344). -/
def execVrcp (vd : Reg) (de : BitVec 5) (vt : Reg) (e : Elem) (s : State) : Result :=
  s.divide reciprocal false vd de vt e
/-- VRCPL (R345). -/
def execVrcpl (vd : Reg) (de : BitVec 5) (vt : Reg) (e : Elem) (s : State) : Result :=
  s.divide reciprocal true vd de vt e
/-- VRCPH (R346). -/
def execVrcph (vd : Reg) (de : BitVec 5) (vt : Reg) (e : Elem) (s : State) : Result :=
  s.divideHigh vd de vt e
/-- VRSQ (R347). -/
def execVrsq (vd : Reg) (de : BitVec 5) (vt : Reg) (e : Elem) (s : State) : Result :=
  s.divide reciprocalSqrt false vd de vt e
/-- VRSQL (R349). -/
def execVrsql (vd : Reg) (de : BitVec 5) (vt : Reg) (e : Elem) (s : State) : Result :=
  s.divide reciprocalSqrt true vd de vt e
/-- VRSQH (R350): as VRCPH; the two families share the divide state. -/
def execVrsqh (vd : Reg) (de : BitVec 5) (vt : Reg) (e : Elem) (s : State) : Result :=
  s.divideHigh vd de vt e

/-- VMOV (R351). -/
def execVmov (vd : Reg) (de : BitVec 5) (vt : Reg) (e : Elem) (s : State) : Result :=
  .next (s.setSingleLane vd de vt e (s.vte vt e (destLane de))).retire

/-- VNOP (R348). -/
def execVnop (s : State) : Result := .next s.retire
/-- VNULL (R348). -/
def execVnull (s : State) : Result := .next s.retire

end Sys2Proof.Machine
end

