-- ==== Sys2Proof/Machine/Dispatch.lean ====
section
/-! DEFINITION. One arm per instruction: the meaning of each row of spec/opcode_table.json. -/

namespace Sys2Proof.Machine

def exec (i : Instr) (s : State) : Host.Outcome State Fault Refusal :=
  match i with
  -- Scalar register arithmetic, logic and comparison (40_scalar_alu.md)
  | .add rd rs rt => Sys2Proof.Machine.execAdd rd rs rt s
  | .addu rd rs rt => Sys2Proof.Machine.execAddu rd rs rt s
  | .sub rd rs rt => Sys2Proof.Machine.execSub rd rs rt s
  | .subu rd rs rt => Sys2Proof.Machine.execSubu rd rs rt s
  | .and rd rs rt => Sys2Proof.Machine.execAnd rd rs rt s
  | .or rd rs rt => Sys2Proof.Machine.execOr rd rs rt s
  | .xor rd rs rt => Sys2Proof.Machine.execXor rd rs rt s
  | .nor rd rs rt => Sys2Proof.Machine.execNor rd rs rt s
  | .slt rd rs rt => Sys2Proof.Machine.execSlt rd rs rt s
  | .sltu rd rs rt => Sys2Proof.Machine.execSltu rd rs rt s
  -- Shifts (40_scalar_alu.md)
  | .sll rd rt sa => Sys2Proof.Machine.execSll rd rt sa s
  | .srl rd rt sa => Sys2Proof.Machine.execSrl rd rt sa s
  | .sra rd rt sa => Sys2Proof.Machine.execSra rd rt sa s
  | .sllv rd rt rs => Sys2Proof.Machine.execSllv rd rt rs s
  | .srlv rd rt rs => Sys2Proof.Machine.execSrlv rd rt rs s
  | .srav rd rt rs => Sys2Proof.Machine.execSrav rd rt rs s
  -- Immediate forms (40_scalar_alu.md)
  | .addi rt rs imm => Sys2Proof.Machine.execAddi rt rs imm s
  | .addiu rt rs imm => Sys2Proof.Machine.execAddiu rt rs imm s
  | .slti rt rs imm => Sys2Proof.Machine.execSlti rt rs imm s
  | .sltiu rt rs imm => Sys2Proof.Machine.execSltiu rt rs imm s
  | .andi rt rs imm => Sys2Proof.Machine.execAndi rt rs imm s
  | .ori rt rs imm => Sys2Proof.Machine.execOri rt rs imm s
  | .xori rt rs imm => Sys2Proof.Machine.execXori rt rs imm s
  | .lui rt imm => Sys2Proof.Machine.execLui rt imm s
  -- Scalar loads and stores (42_scalar_loadstore.md)
  | .lb rt imm base => Sys2Proof.Machine.execLb rt imm base s
  | .lh rt imm base => Sys2Proof.Machine.execLh rt imm base s
  | .lw rt imm base => Sys2Proof.Machine.execLw rt imm base s
  | .lbu rt imm base => Sys2Proof.Machine.execLbu rt imm base s
  | .lhu rt imm base => Sys2Proof.Machine.execLhu rt imm base s
  | .lwu rt imm base => Sys2Proof.Machine.execLwu rt imm base s
  | .sb rt imm base => Sys2Proof.Machine.execSb rt imm base s
  | .sh rt imm base => Sys2Proof.Machine.execSh rt imm base s
  | .sw rt imm base => Sys2Proof.Machine.execSw rt imm base s
  -- Jumps and branches (41_scalar_branch.md)
  | .j target => Sys2Proof.Machine.execJ target s
  | .jal target => Sys2Proof.Machine.execJal target s
  | .jr rs => Sys2Proof.Machine.execJr rs s
  | .jalr rd rs => Sys2Proof.Machine.execJalr rd rs s
  | .beq rs rt imm => Sys2Proof.Machine.execBeq rs rt imm s
  | .bne rs rt imm => Sys2Proof.Machine.execBne rs rt imm s
  | .blez rs imm => Sys2Proof.Machine.execBlez rs imm s
  | .bgtz rs imm => Sys2Proof.Machine.execBgtz rs imm s
  | .bltz rs imm => Sys2Proof.Machine.execBltz rs imm s
  | .bgez rs imm => Sys2Proof.Machine.execBgez rs imm s
  | .bltzal rs imm => Sys2Proof.Machine.execBltzal rs imm s
  | .bgezal rs imm => Sys2Proof.Machine.execBgezal rs imm s
  -- BREAK and the coprocessor moves (43_scalar_cop_moves.md)
  | .brk code => Sys2Proof.Machine.execBrk code s
  | .mfc0 rt rd => Sys2Proof.Machine.execMfc0 rt rd s
  | .mtc0 rt rd => Sys2Proof.Machine.execMtc0 rt rd s
  | .mfc2 rt rd e => Sys2Proof.Machine.execMfc2 rt rd e s
  | .mtc2 rt rd e => Sys2Proof.Machine.execMtc2 rt rd e s
  | .cfc2 rt rd => Sys2Proof.Machine.execCfc2 rt rd s
  | .ctc2 rt rd => Sys2Proof.Machine.execCtc2 rt rd s
  -- Vector multiply and multiply-accumulate (44_vector_multiply.md)
  | .vmulf vd vs vt e => Sys2Proof.Machine.execVmulf vd vs vt e s
  | .vmulu vd vs vt e => Sys2Proof.Machine.execVmulu vd vs vt e s
  | .vrndp vd sh vt e => Sys2Proof.Machine.execVrndp vd sh vt e s
  | .vmulq vd vs vt e => Sys2Proof.Machine.execVmulq vd vs vt e s
  | .vmudl vd vs vt e => Sys2Proof.Machine.execVmudl vd vs vt e s
  | .vmudm vd vs vt e => Sys2Proof.Machine.execVmudm vd vs vt e s
  | .vmudn vd vs vt e => Sys2Proof.Machine.execVmudn vd vs vt e s
  | .vmudh vd vs vt e => Sys2Proof.Machine.execVmudh vd vs vt e s
  | .vmacf vd vs vt e => Sys2Proof.Machine.execVmacf vd vs vt e s
  | .vmacu vd vs vt e => Sys2Proof.Machine.execVmacu vd vs vt e s
  | .vrndn vd sh vt e => Sys2Proof.Machine.execVrndn vd sh vt e s
  | .vmacq vd vs vt e => Sys2Proof.Machine.execVmacq vd vs vt e s
  | .vmadl vd vs vt e => Sys2Proof.Machine.execVmadl vd vs vt e s
  | .vmadm vd vs vt e => Sys2Proof.Machine.execVmadm vd vs vt e s
  | .vmadn vd vs vt e => Sys2Proof.Machine.execVmadn vd vs vt e s
  | .vmadh vd vs vt e => Sys2Proof.Machine.execVmadh vd vs vt e s
  -- Vector add, subtract, accumulator read, logic (45_vector_add_logic.md)
  | .vadd vd vs vt e => Sys2Proof.Machine.execVadd vd vs vt e s
  | .vsub vd vs vt e => Sys2Proof.Machine.execVsub vd vs vt e s
  | .vabs vd vs vt e => Sys2Proof.Machine.execVabs vd vs vt e s
  | .vaddc vd vs vt e => Sys2Proof.Machine.execVaddc vd vs vt e s
  | .vsubc vd vs vt e => Sys2Proof.Machine.execVsubc vd vs vt e s
  | .vsar vd e => Sys2Proof.Machine.execVsar vd e s
  | .vand vd vs vt e => Sys2Proof.Machine.execVand vd vs vt e s
  | .vnand vd vs vt e => Sys2Proof.Machine.execVnand vd vs vt e s
  | .vor vd vs vt e => Sys2Proof.Machine.execVor vd vs vt e s
  | .vnor vd vs vt e => Sys2Proof.Machine.execVnor vd vs vt e s
  | .vxor vd vs vt e => Sys2Proof.Machine.execVxor vd vs vt e s
  | .vnxor vd vs vt e => Sys2Proof.Machine.execVnxor vd vs vt e s
  -- Reserved vector opcodes (45_vector_add_logic.md R295)
  | .vrsvd12 vd vs vt e => Sys2Proof.Machine.execVrsvd12 vd vs vt e s
  | .vrsvd16 vd vs vt e => Sys2Proof.Machine.execVrsvd16 vd vs vt e s
  | .vrsvd17 vd vs vt e => Sys2Proof.Machine.execVrsvd17 vd vs vt e s
  | .vrsvd18 vd vs vt e => Sys2Proof.Machine.execVrsvd18 vd vs vt e s
  | .vrsvd19 vd vs vt e => Sys2Proof.Machine.execVrsvd19 vd vs vt e s
  | .vrsvd1a vd vs vt e => Sys2Proof.Machine.execVrsvd1a vd vs vt e s
  | .vrsvd1b vd vs vt e => Sys2Proof.Machine.execVrsvd1b vd vs vt e s
  | .vrsvd1c vd vs vt e => Sys2Proof.Machine.execVrsvd1c vd vs vt e s
  | .vrsvd1e vd vs vt e => Sys2Proof.Machine.execVrsvd1e vd vs vt e s
  | .vrsvd1f vd vs vt e => Sys2Proof.Machine.execVrsvd1f vd vs vt e s
  | .vrsvd2e vd vs vt e => Sys2Proof.Machine.execVrsvd2e vd vs vt e s
  | .vrsvd2f vd vs vt e => Sys2Proof.Machine.execVrsvd2f vd vs vt e s
  | .vrsvd38 vd vs vt e => Sys2Proof.Machine.execVrsvd38 vd vs vt e s
  | .vrsvd39 vd vs vt e => Sys2Proof.Machine.execVrsvd39 vd vs vt e s
  | .vrsvd3a vd vs vt e => Sys2Proof.Machine.execVrsvd3a vd vs vt e s
  | .vrsvd3b vd vs vt e => Sys2Proof.Machine.execVrsvd3b vd vs vt e s
  | .vrsvd3c vd vs vt e => Sys2Proof.Machine.execVrsvd3c vd vs vt e s
  | .vrsvd3d vd vs vt e => Sys2Proof.Machine.execVrsvd3d vd vs vt e s
  | .vrsvd3e vd vs vt e => Sys2Proof.Machine.execVrsvd3e vd vs vt e s
  -- Vector compare, clip and merge (46_vector_compare_select.md)
  | .vlt vd vs vt e => Sys2Proof.Machine.execVlt vd vs vt e s
  | .veq vd vs vt e => Sys2Proof.Machine.execVeq vd vs vt e s
  | .vne vd vs vt e => Sys2Proof.Machine.execVne vd vs vt e s
  | .vge vd vs vt e => Sys2Proof.Machine.execVge vd vs vt e s
  | .vcl vd vs vt e => Sys2Proof.Machine.execVcl vd vs vt e s
  | .vch vd vs vt e => Sys2Proof.Machine.execVch vd vs vt e s
  | .vcr vd vs vt e => Sys2Proof.Machine.execVcr vd vs vt e s
  | .vmrg vd vs vt e => Sys2Proof.Machine.execVmrg vd vs vt e s
  -- Vector single-lane operations (47_vector_single_lane.md)
  | .vrcp vd de vt e => Sys2Proof.Machine.execVrcp vd de vt e s
  | .vrcpl vd de vt e => Sys2Proof.Machine.execVrcpl vd de vt e s
  | .vrcph vd de vt e => Sys2Proof.Machine.execVrcph vd de vt e s
  | .vmov vd de vt e => Sys2Proof.Machine.execVmov vd de vt e s
  | .vrsq vd de vt e => Sys2Proof.Machine.execVrsq vd de vt e s
  | .vrsql vd de vt e => Sys2Proof.Machine.execVrsql vd de vt e s
  | .vrsqh vd de vt e => Sys2Proof.Machine.execVrsqh vd de vt e s
  | .vnop => Sys2Proof.Machine.execVnop s
  | .vnull => Sys2Proof.Machine.execVnull s
  -- Vector loads (48_vector_loadstore.md)
  | .lbv vt e offset base => Sys2Proof.Machine.execLbv vt e offset base s
  | .lsv vt e offset base => Sys2Proof.Machine.execLsv vt e offset base s
  | .llv vt e offset base => Sys2Proof.Machine.execLlv vt e offset base s
  | .ldv vt e offset base => Sys2Proof.Machine.execLdv vt e offset base s
  | .lqv vt e offset base => Sys2Proof.Machine.execLqv vt e offset base s
  | .lrv vt e offset base => Sys2Proof.Machine.execLrv vt e offset base s
  | .lpv vt e offset base => Sys2Proof.Machine.execLpv vt e offset base s
  | .luv vt e offset base => Sys2Proof.Machine.execLuv vt e offset base s
  | .lhv vt e offset base => Sys2Proof.Machine.execLhv vt e offset base s
  | .lfv vt e offset base => Sys2Proof.Machine.execLfv vt e offset base s
  | .lwv vt e offset base => Sys2Proof.Machine.execLwv vt e offset base s
  | .ltv vt e offset base => Sys2Proof.Machine.execLtv vt e offset base s
  -- Vector stores (48_vector_loadstore.md)
  | .sbv vt e offset base => Sys2Proof.Machine.execSbv vt e offset base s
  | .ssv vt e offset base => Sys2Proof.Machine.execSsv vt e offset base s
  | .slv vt e offset base => Sys2Proof.Machine.execSlv vt e offset base s
  | .sdv vt e offset base => Sys2Proof.Machine.execSdv vt e offset base s
  | .sqv vt e offset base => Sys2Proof.Machine.execSqv vt e offset base s
  | .srv vt e offset base => Sys2Proof.Machine.execSrv vt e offset base s
  | .spv vt e offset base => Sys2Proof.Machine.execSpv vt e offset base s
  | .suv vt e offset base => Sys2Proof.Machine.execSuv vt e offset base s
  | .shv vt e offset base => Sys2Proof.Machine.execShv vt e offset base s
  | .sfv vt e offset base => Sys2Proof.Machine.execSfv vt e offset base s
  | .swv vt e offset base => Sys2Proof.Machine.execSwv vt e offset base s
  | .stv vt e offset base => Sys2Proof.Machine.execStv vt e offset base s

end Sys2Proof.Machine
end

