-- ==== Sys2Proof/Machine/Step.lean ====
section
/-! DEFINITION. One step of the engine (49_control_loop.md, R410-R413): the host's `step(1)`.

Also `withFetchWord`, which stands for the host's loading of a program (R472): how one comes to run from
`State.reset` is assumption log 7. -/

namespace Sys2Proof.Machine

/-- One instruction cycle (R413): fetch, decode, execute; an ILLEGAL word is a no-op (R120). -/
def cycle (s : State) : Host.Outcome State Fault Refusal :=
  match decode s.fetch with
  | .ok i => exec i s
  | .error _ => execIllegal s

/-- `step(1)`: no effect while `Halted`, else one instruction cycle (R412); refused again on a state that
carries the refusal mark (R446). -/
def step (s : State) : Host.Outcome State Fault Refusal :=
  s.unlessMarked (if s.halted then .next s else cycle s)

/-- `s` with a table word's instruction stored where the next cycle fetches, and the engine `Running`, as
the host's `writeByte` and `setHalted(false)` leave it (R472). -/
def State.withFetchWord (s : State) (nbits w : Nat) : State :=
  let p : Word := s.fetchAddr.setWidth 32
  let v := tableWord nbits w
  { (((s.putIm p (v.extractLsb' 24 8)).putIm (p + 1) (v.extractLsb' 16 8)).putIm (p + 2)
      (v.extractLsb' 8 8)).putIm (p + 3) (v.extractLsb' 0 8) with halted := false }

end Sys2Proof.Machine
end

