-- ==== Sys2Proof/Machine/HostOps.lean ====
section
/-! DEFINITION. The host's operations (49_control_loop.md R411-R421) and its raw views of the regions
(20_memory.md R73, R78; 10_state.md R41, R53).

Each is complete before the next begins and happens between steps (R418, R419), so each is a function of
the state.  No step of the core calls one of them. -/

namespace Sys2Proof.Machine

/-! ### Control (R411, R412, R416, R417) -/

/-- `init()` (R55, R417, D12): registers, `pc`, `pend`, vector state and `cycles` are zeroed; memory and
`halted` are kept, and so are the refusal mark (R446), the parameters (R52) and the model's draw count. -/
def State.init (s : State) : State :=
  { State.reset with
    halted := s.halted
    imem := s.imem
    dmem := s.dmem
    refused := s.refused
    cfg := s.cfg
    draws := s.draws }

/-- `setHalted(f)` (R411). -/
def State.setHalted (s : State) (f : Bool) : State := { s with halted := f }

/-- Exactly `n` instruction cycles, or up to the first refused one, which changes nothing but the mark
(R412, R414, R446).  The second component is the call's outcome: `none` is `Next`. -/
def runCycles (n : Nat) (s : State) : State × Option Refusal :=
  match n with
  | 0 => (s, none)
  | k + 1 =>
    match cycle s with
    | .next t => runCycles k t
    | .refused r => (s.markRefused r, some r)
    | .fault f => nomatch f

/-- `step(count)` (R412): the check of `halted` at the call decides the whole call.  A call on a state that carries
the refusal mark runs no cycle and answers the refusal again (R446; assumption log 6). -/
def hostStep (count : Nat) (s : State) : State × Option Refusal :=
  match s.refused with
  | some r => (s, some r)
  | none => if s.halted then (s, none) else runCycles count s

/-- `getCycles()` (R416), counting in ℕ. -/
def State.getCycles (s : State) : Nat := s.cycles

/-- `getCycles()` of an implementation of finite width (R416, D15). -/
def State.getCyclesFinite (s : State) : Nat := s.cycles % 2 ^ Config.cycleBits

/-! ### Regions (R73, R78) -/

/-- The two memory regions (R51). -/
inductive Region where
  | imem
  | dmem
  deriving DecidableEq, Repr

/-- `readByte(region, addr)`: the logical byte (R78). -/
def State.readByte (s : State) (r : Region) (a : Word) : Byte :=
  match r with
  | .imem => s.im a
  | .dmem => s.dm a

/-- `writeByte(region, addr, byte)` (R78). -/
def State.writeByte (s : State) (r : Region) (a : Word) (b : Byte) : State :=
  match r with
  | .imem => s.putIm a b
  | .dmem => s.putDm a b

/-- The word accessor, reading: four logical bytes, big-endian (R72, R78; assumption log 9). -/
def State.readWord (s : State) (r : Region) (a : Word) : Word :=
  s.readByte r a ++ s.readByte r (a + 1) ++ s.readByte r (a + 2) ++ s.readByte r (a + 3)

/-- The word accessor, writing (assumption log 9). -/
def State.writeWord (s : State) (r : Region) (a : Word) (v : Word) : State :=
  (((s.writeByte r a (v.extractLsb' 24 8)).writeByte r (a + 1) (v.extractLsb' 16 8)).writeByte r (a + 2)
    (v.extractLsb' 8 8)).writeByte r (a + 3) (v.extractLsb' 0 8)

/-- The byte remap of the raw buffer: `(a & ~3) | (3 - (a & 3))` (R73). -/
def remap (a : RegionAddr) : RegionAddr := (a &&& ~~~3) ||| (3 - (a &&& 3))

/-- Byte `i` of a region's raw buffer (R73). -/
def State.rawRead (s : State) (r : Region) (i : RegionAddr) : Byte := s.readByte r ((remap i).setWidth 32)

/-- A raw write to byte `i` of a region's buffer (R73). -/
def State.rawWrite (s : State) (r : Region) (i : RegionAddr) (b : Byte) : State :=
  s.writeByte r ((remap i).setWidth 32) b

/-! ### The scalar region (R53): 33 words, little-endian within the word -/

/-- Slot `n` of the scalar region: a register, and `pc` in slot 32 (R34, R53). -/
def State.scalarSlot (s : State) (n : Fin 33) : Word :=
  if h : n.val < 32 then s.x (BitVec.ofFin ⟨n.val, h⟩) else s.pc

/-- Byte `i` of the scalar region's raw buffer. -/
def State.rawScalar (s : State) (i : Fin 132) : Byte :=
  (s.scalarSlot ⟨i.val / 4, by omega⟩).extractLsb' (8 * (i.val % 4)) 8

/-- A word with its byte `k` (0 the least significant) replaced. -/
def withByte (w : Word) (k : Nat) (b : Byte) : Word :=
  (w &&& ~~~(0xFF#32 <<< (8 * k))) ||| ((b.setWidth 32 : Word) <<< (8 * k))

/-- A raw write to byte `i` of the scalar region.  A nonzero byte to slot 0 breaks the host's duty and has
no move (R419, D16). -/
def State.setRawScalar (s : State) (i : Fin 132) (b : Byte) : Option State :=
  let w := withByte (s.scalarSlot ⟨i.val / 4, by omega⟩) (i.val % 4) b
  if i.val / 4 = 0 then if b = 0 then some s else none
  else if i.val / 4 = 32 then some { s with pc := w }
  else some (s.setX (BitVec.ofNat 5 (i.val / 4)) w)

/-- The indexed accessors of the scalar file: `setGPR(n, v)` is dropped for `n = 0` (R31, R418). -/
def State.setGPR (s : State) (n : Reg) (v : Word) : State := s.setX n v

/-- The indexed read of the scalar file (R418). -/
def State.getGPR (s : State) (n : Reg) : Word := s.x n

/-- The host's write of `pc` (R420, D18): `pend` is unchanged. -/
def State.setPc (s : State) (v : Word) : State := { s with pc := v }

/-! ### The vector region (R41): register `n` at byte `16 n`, little-endian as one 128-bit value -/

/-- Byte `i` of the vector region's raw buffer: logical byte `k` is raw byte `n*16 + 15 - k`. -/
def State.rawVector (s : State) (i : Fin 512) : Byte :=
  s.vbyte (BitVec.ofNat 5 (i.val / 16)) (BitVec.ofNat 4 (15 - i.val % 16))

/-- A raw write to byte `i` of the vector region. -/
def State.setRawVector (s : State) (i : Fin 512) (b : Byte) : State :=
  s.setVbytes (BitVec.ofNat 5 (i.val / 16)) fun k =>
    if k = BitVec.ofNat 4 (15 - i.val % 16) then some b else none

/-- `writeVectorLane(reg, i, v)`, by the logical lane index (R41). -/
def State.writeVectorLane (s : State) (r : Reg) (j : Fin 8) (v : Half) : State := s.setLane r j v

/-- The lane read (R41). -/
def State.readVectorLane (s : State) (r : Reg) (j : Fin 8) : Half := s.lane r j

/-- The debug read of the accumulator and the flags (R452, D25): it writes nothing. -/
def State.debugRead (s : State) : Vector AccLane 8 × BitVec 16 × BitVec 16 × BitVec 8 :=
  (s.acc, s.vco, s.vcc, s.vce)

/-! ### The end of a run (R421, D30) -/

/-- How a run by address ends. -/
inductive RunEnd where
  /-- the state at the first cycle that would fetch at `E` with `pend = none` -/
  | ended (s : State)
  /-- the bound passed first: no claim about the end holds -/
  | notEnded
  /-- a cycle was refused first, or the launch state already carried the mark (R446): the state with the mark -/
  | refused (s : State) (r : Refusal)
  deriving DecidableEq, Repr

/-- End by count: `step(N)` (R421). -/
def endByCount (n : Nat) (s : State) : State × Option Refusal := hostStep n s

/-- The next cycle would fetch at `stop` with `pend = none` (R421). -/
def State.atStop (s : State) (stop : RegionAddr) : Bool :=
  s.fetchAddr == stop && s.pend == .none

/-- End by address (R421): before the first cycle that would fetch at `stop` with `pend = none`, within
`bound` cycles (assumption log 14).

DESIGN CHOICE (assumption log 17): a launch state whose host-written `pc` is not a multiple of 4 below 4096 but has
`pc & 0xFFC = stop` ends there, with `pc` as the host wrote it.  R421 says of this moment both that the cycle
"would fetch at `E`" and that `pc = E`; the model takes the first.  No later state of a run is of this kind. -/
def endByAddress (stop : RegionAddr) (bound : Nat) (s : State) : RunEnd :=
  match s.refused with
  | some r => .refused s r
  | none =>
    if s.atStop stop then .ended s
    else
      match bound with
      | 0 => .notEnded
      | k + 1 =>
        match step s with
        | .next t => endByAddress stop k t
        | .refused r => .refused (s.markRefused r) r
        | .fault f => nomatch f

end Sys2Proof.Machine
end

