-- ==== Sys2Proof/Safety.lean ====
section
/-! DEFINITION. The terms in which claims about the engine are stated: what an instruction leaves unchanged,
how its cycle ends, the invariant of every step, and which instructions own which state.

The formulas are the rules' own, over observations of a state (`State.x`, `vreg`, `dm`, …), not over the
operations the meanings are built from. -/

namespace Sys2Proof.Machine

/-- `exec i s` answers a next state, and that state has the property. -/
def Completes (i : Instr) (s : State) (P : State → Prop) : Prop := ∃ t, exec i s = .next t ∧ P t

/-- The word `w` is the instruction `i`, and `i` completes with the property. -/
def Means (w : Word) (i : Instr) (s : State) (P : State → Prop) : Prop :=
  decode w = .ok i ∧ Completes i s P

/-! ### What stays unchanged -/

/-- Every scalar register is unchanged. -/
def SameScalar (s t : State) : Prop := ∀ r, t.x r = s.x r

/-- Every vector register is unchanged. -/
def SameVregs (s t : State) : Prop := ∀ r, t.vreg r = s.vreg r

/-- Every accumulator lane is unchanged. -/
def SameAcc (s t : State) : Prop := ∀ j, t.accLane j = s.accLane j

/-- The three flag registers are unchanged. -/
def SameFlags (s t : State) : Prop := t.vco = s.vco ∧ t.vcc = s.vcc ∧ t.vce = s.vce

/-- The divide state is unchanged. -/
def SameDivide (s t : State) : Prop := t.divIn = s.divIn ∧ t.divOut = s.divOut ∧ t.divDp = s.divDp

/-- Every byte of instruction memory reads as before. -/
def SameImem (s t : State) : Prop := ∀ a, t.im a = s.im a

/-- Every byte of data memory reads as before. -/
def SameDmem (s t : State) : Prop := ∀ a, t.dm a = s.dm a

/-- The control state, the refusal mark and the parameters are unchanged. -/
def SameControl (s t : State) : Prop := t.halted = s.halted ∧ t.refused = s.refused ∧ t.cfg = s.cfg

/-- The whole vector unit is unchanged. -/
def SameVectorUnit (s t : State) : Prop :=
  SameVregs s t ∧ SameAcc s t ∧ SameFlags s t ∧ SameDivide s t

/-! ### How a cycle ends -/

/-- `P` as a 32-bit value: `pc & 0xFFC` (R413). -/
def cyclePc (s : State) : Word := s.pc &&& 0xFFC

/-- `(P + 4) & 0xFFC` (R35, R413). -/
def nextWord (s : State) : Word := (cyclePc s + 4) &&& 0xFFC

/-- The cycle ends as R413 says of an instruction that is no control transfer. -/
def Retires (s t : State) : Prop :=
  (∀ target, s.pend = .slot (some target) → t.pc = target.setWidth 32) ∧
  ((∀ target, s.pend ≠ .slot (some target)) → t.pc = nextWord s) ∧
  t.pend = .none ∧ t.cycles = s.cycles + 1

/-- The cycle ends as R180 says of a control transfer, for either value of DELAY_SLOT. -/
def Transfers (s t : State) (taken : Bool) (target : Word) : Prop :=
  (s.cfg.delaySlot = true →
    t.pc = nextWord s ∧ t.pend = .slot (if taken then some (target.setWidth 12) else none)) ∧
  (s.cfg.delaySlot = false → t.pc = (if taken then target else nextWord s) ∧ t.pend = .none) ∧
  t.cycles = s.cycles + 1

/-- The link value `L` (R182). -/
def linkValue (s : State) : Word :=
  (cyclePc s + if s.cfg.delaySlot then 8 else 4) &&& 0xFFC

/-! ### The shapes of effect -/

/-- Nothing changes but `pc`, `pend` and `cycles`. -/
def NoEffect (s t : State) : Prop :=
  SameScalar s t ∧ SameVectorUnit s t ∧ SameDmem s t ∧ SameImem s t ∧ SameControl s t ∧
  t.draws = s.draws ∧ Retires s t

/-- The one effect is `x[rd] <- v`, dropped for register 0 (R31). -/
def WritesX (s t : State) (rd : Reg) (v : Word) : Prop :=
  (t.x rd = if rd = 0 then 0 else v) ∧ (∀ r, r ≠ rd → t.x r = s.x r) ∧
  SameVectorUnit s t ∧ SameDmem s t ∧ SameImem s t ∧ SameControl s t ∧
  t.draws = s.draws ∧ Retires s t

/-- The one effect beside the transfer is the link value in `link`, if it names a register other than 0. -/
def JumpsTo (s t : State) (link : Option Reg) (taken : Bool) (target : Word) : Prop :=
  (∀ r, t.x r = if link = some r ∧ r ≠ 0 then linkValue s else s.x r) ∧
  SameVectorUnit s t ∧ SameDmem s t ∧ SameImem s t ∧ SameControl s t ∧
  t.draws = s.draws ∧ Transfers s t taken target

/-- The one effect is the store of `n` bytes: byte `k` goes to address `addr k` mod 4096, and every byte at
another address reads as before. -/
def Stores (s t : State) (n : Nat) (addr : Nat → Word) (b : Nat → Byte) : Prop :=
  (∀ k < n, t.dm (addr k) = b k) ∧
  (∀ a : Word, (∀ k < n, (addr k).toNat % 4096 ≠ a.toNat % 4096) → t.dm a = s.dm a) ∧
  SameScalar s t ∧ SameVectorUnit s t ∧ SameImem s t ∧ SameControl s t ∧
  t.draws = s.draws ∧ Retires s t

/-- The one effect is on `vr[vt]`, whose byte `k` is `b k` afterwards. -/
def WritesVbytes (s t : State) (vt : Reg) (b : Elem → Byte) : Prop :=
  (∀ k, t.vbyte vt k = b k) ∧ (∀ r, r ≠ vt → t.vreg r = s.vreg r) ∧
  SameAcc s t ∧ SameFlags s t ∧ SameDivide s t ∧ SameScalar s t ∧ SameDmem s t ∧ SameImem s t ∧
  SameControl s t ∧ t.draws = s.draws ∧ Retires s t

/-- The one effect is on `vr[vt]`, whose lane `j` is `lanes j` afterwards. -/
def WritesVlanes (s t : State) (vt : Reg) (lanes : Fin 8 → Half) : Prop :=
  (∀ j, t.lane vt j = lanes j) ∧ (∀ r, r ≠ vt → t.vreg r = s.vreg r) ∧
  SameAcc s t ∧ SameFlags s t ∧ SameDivide s t ∧ SameScalar s t ∧ SameDmem s t ∧ SameImem s t ∧
  SameControl s t ∧ t.draws = s.draws ∧ Retires s t

/-- A lane-wise vector instruction: what each accumulator lane and each lane of `vr[vd]` is afterwards; the
flags and the divide state are stated apart. -/
def WritesLanes (s t : State) (vd : Reg) (acc : Fin 8 → AccLane) (res : Fin 8 → Half) : Prop :=
  (∀ j, t.accLane j = acc j) ∧ (∀ j, t.lane vd j = res j) ∧ (∀ r, r ≠ vd → t.vreg r = s.vreg r) ∧
  SameScalar s t ∧ SameDmem s t ∧ SameImem s t ∧ SameControl s t ∧ t.draws = s.draws ∧ Retires s t

/-- A lane-wise instruction that writes ACC_LO only (R280, R310). -/
def WritesLoLanes (s t : State) (vd : Reg) (lo res : Fin 8 → Half) : Prop :=
  (∀ j, (t.accLane j).extractLsb' 0 16 = lo j ∧
    (t.accLane j).extractLsb' 16 32 = (s.accLane j).extractLsb' 16 32) ∧
  (∀ j, t.lane vd j = res j) ∧ (∀ r, r ≠ vd → t.vreg r = s.vreg r) ∧
  SameScalar s t ∧ SameDmem s t ∧ SameImem s t ∧ SameControl s t ∧ t.draws = s.draws ∧ Retires s t

/-- A single-lane instruction (R340): one lane of `vd` takes `v`, ACC_LO takes `vte`, no flag changes. -/
def WritesOneLane (s t : State) (vd : Reg) (de : BitVec 5) (vt : Reg) (e : Elem) (v : Half) : Prop :=
  (∀ j : Fin 8, t.lane vd j = if j.val = de.toNat % 8 then v else s.lane vd j) ∧
  (∀ r, r ≠ vd → t.vreg r = s.vreg r) ∧
  (∀ j, (t.accLane j).extractLsb' 0 16 = s.lane vt (sel e j) ∧
    (t.accLane j).extractLsb' 16 32 = (s.accLane j).extractLsb' 16 32) ∧
  SameFlags s t ∧ SameScalar s t ∧ SameDmem s t ∧ SameImem s t ∧ SameControl s t ∧
  t.draws = s.draws ∧ Retires s t

/-! ### The invariant of every step -/

/-- `pend` is one the core can leave: `none` without delay slots, and a target that is a multiple of 4
(R36, R180). -/
def pendLegal (s : State) : Bool :=
  match s.pend with
  | .none => true
  | .slot none => s.cfg.delaySlot
  | .slot (some t) => s.cfg.delaySlot && t &&& 0xFFC == t

/-- What every step keeps: both regions in canonical form, the storage of register 0 zero (R31), `pc` a
multiple of 4 inside IMEM (R34), and a legal `pend` (R36). -/
def State.inv (s : State) : Bool :=
  Memory.wf s.imem && Memory.wf s.dmem && s.gpr[0] == 0 && s.pc &&& 0xFFC == s.pc && pendLegal s

/-! ### The divide unit in numbers (R343, R344, R347) -/

/-- `data` of R343 as a number: the magnitude, but `-input - 1` from -32768 down. -/
def magnitude (input : Int) : Nat := if input ≤ -32768 then (-input - 1).toNat else input.natAbs

/-- The 9 bits below the leading one of `m`: `index` of R344. -/
def leadingBits (m : Nat) : Nat := m * 2 ^ (31 - m.log2) / 2 ^ 22 % 512

/-- A result of the divide unit from the table entry and the right shift (R344, R347). -/
def divideValue (input : Word) (entry : Nat → Half) (shift : Nat → Nat) : Word :=
  let m := magnitude input.toInt
  if m = 0 then 0x7FFFFFFF
  else if input.toInt = -32768 then 0xFFFF0000
  else
    let r := BitVec.ofNat 32 ((0x10000 + (entry m).toNat) * 2 ^ 14 / 2 ^ shift m)
    if input.toInt < 0 then ~~~r else r

/-- `result` of R344. -/
def reciprocalValue (input : Word) : Word :=
  divideValue input (fun m => Config.rcpRom (BitVec.ofNat 9 (leadingBits m))) (fun m => m.log2)

/-- `result` of R347. -/
def reciprocalSqrtValue (input : Word) : Word :=
  divideValue input
    (fun m => Config.rsqRom (BitVec.ofNat 9 (leadingBits m / 2 * 2 + (31 - m.log2) % 2)))
    (fun m => m.log2 / 2)

/-- An unmarked state from which `n` instruction cycles run without a refusal: what a claim about a run may
assume (R446). -/
def RunsRefusalFree (n : Nat) (s : State) : Prop := s.refused = none ∧ (runCycles n s).2 = none

/-- `t` is the state that a run by address from `s` reaches after `n` steps, the first that is at `stop` (R421). -/
def ReachesStop (stop : RegionAddr) (n : Nat) (s t : State) : Prop :=
  Sys2Proof.core.run n s = .next t ∧ t.fetchAddr = stop ∧ t.pend = .none ∧
  ∀ m < n, ∀ u : State, Sys2Proof.core.run m s = .next u → ¬(u.fetchAddr = stop ∧ u.pend = .none)

end Sys2Proof.Machine

namespace Sys2Proof

/-! ### Which instructions own which state -/

/-- The vector computational instructions (format V, R105, R117): the only ones that touch the accumulator
(R43), and with CTC2 the only ones that write a flag register (R45-R47). -/
def Instr.isVectorComputational (i : Instr) : Bool := i.row.mask == 0xFE00003F

/-- The six instructions of the divide unit (R49). -/
def Instr.usesDivideUnit : Instr → Bool
  | .vrcp _ _ _ _ | .vrcpl _ _ _ _ | .vrcph _ _ _ _ | .vrsq _ _ _ _ | .vrsql _ _ _ _
  | .vrsqh _ _ _ _ => true
  | _ => false

/-- The scalar and vector stores (R209-R211, R382-R391): the only instructions that write memory. -/
def Instr.isStore : Instr → Bool
  | .sb _ _ _ | .sh _ _ _ | .sw _ _ _ | .sbv _ _ _ _ | .ssv _ _ _ _ | .slv _ _ _ _ | .sdv _ _ _ _
  | .sqv _ _ _ _ | .srv _ _ _ _ | .spv _ _ _ _ | .suv _ _ _ _ | .shv _ _ _ _ | .sfv _ _ _ _
  | .swv _ _ _ _ | .stv _ _ _ _ => true
  | _ => false

end Sys2Proof
end

