-- ==== Sys2Proof/Certificates/Slice0/Obligations.lean ====
section
/-! DEFINITION. The statements for the provers, from the numbered rules of spec/.

A statement about an instruction takes the instruction's WORD, every field it ignores left free (R121): the
word decodes to the instruction, the instruction completes, and the next state is the one its rule gives,
with all else unchanged (`Means`, Safety.lean).  Formulas are the rules' own, in exact integers. -/

open Sys2Proof Sys2Proof.Machine

/-! ### Encoding (30_encoding.md) -/

/-- Every instruction, with every operand at every value its fields admit, is what the decoder reads from its
word, and from the bytes of its word with the bytes after it left over (R72, R100-R119). -/
def Obligations.DecodeInvertsEncode : Prop :=
  ∀ (i : Instr) (rest : List Byte),
    decode (encode i) = .ok i ∧ decodeBytes (wordBytes (encode i) ++ rest) = .ok (i, rest)

/-- A word decodes only to an instruction whose row of the opcode table it matches, and a word is ILLEGAL
exactly when no row matches it (R113-R120); "no two rows of opcode_table.json match the same word" (R123). -/
def Obligations.DecodeFollowsOpcodeTable : Prop :=
  (∀ w : Word,
    (∀ i, decode w = .ok i → i.row ∈ opcodeTable ∧ i.row.covers w = true) ∧
    (∀ r, decode w = .error r → r ≠ .truncated ∧ ∀ row ∈ opcodeTable, row.covers w = false)) ∧
  opcodeTable.length = 140 ∧
  opcodeTable.Pairwise fun p q => ∀ w : Word, ¬(p.covers w = true ∧ q.covers w = true)

/-- The ILLEGAL words are exactly those of the lists of R113-R119: an unlisted primary opcode, SPECIAL
`funct`, REGIMM operation, COP0 or COP2 move kind, or vector memory `vop`. -/
def Obligations.DecodeRejectsExactlyIllegalWords : Prop :=
  ∀ w : Word,
    (∃ r, decode w = .error r) ↔
      let op := w.toNat / 2 ^ 26
      let rs := w.toNat / 2 ^ 21 % 32
      let rt := w.toNat / 2 ^ 16 % 32
      let vop := w.toNat / 2 ^ 11 % 32
      let funct := w.toNat % 64
      (op ∈ [0x11, 0x13, 0x22, 0x26, 0x2A, 0x30, 0x31] ∨ (0x14 ≤ op ∧ op ≤ 0x1F) ∨
        (0x2C ≤ op ∧ op ≤ 0x2F) ∨ (0x33 ≤ op ∧ op ≤ 0x39) ∨ 0x3B ≤ op) ∨
      (op = 0x00 ∧ (funct ∈ [0x01, 0x05, 0x28, 0x29] ∨ (0x0A ≤ funct ∧ funct ≤ 0x0C) ∨
        (0x0E ≤ funct ∧ funct ≤ 0x1F) ∨ 0x2C ≤ funct)) ∨
      (op = 0x01 ∧ rt ∉ [0x00, 0x01, 0x10, 0x11]) ∨
      (op = 0x10 ∧ rs ∉ [0x00, 0x04]) ∨
      (op = 0x12 ∧ rs < 0x10 ∧ rs ∉ [0x00, 0x02, 0x04, 0x06]) ∨
      (op = 0x32 ∧ 12 ≤ vop) ∨
      (op = 0x3A ∧ 12 ≤ vop)

/-- Words the spec writes out (R142-R348 and 95_test_vectors.md), one or two of each family, decode to the
instructions it says they are. -/
def Obligations.SpecWordsDecode : Prop :=
  decode 0x00221820 = .ok (.add 3 1 2) ∧ decode 0x00021FC2 = .ok (.srl 3 2 31) ∧
  decode 0x34081234 = .ok (.ori 8 0 0x1234) ∧ decode 0x8C02FFFF = .ok (.lw 2 0xFFFF 0) ∧
  decode 0xAC02FFFE = .ok (.sw 2 0xFFFE 0) ∧ decode 0x0040F809 = .ok (.jalr 31 2) ∧
  decode 0x10220003 = .ok (.beq 1 2 3) ∧ decode 0x04310002 = .ok (.bgezal 1 2) ∧
  decode 0x40022000 = .ok (.mfc0 2 4) ∧ decode 0x48021F80 = .ok (.mfc2 2 3 15) ∧
  decode 0x48C20800 = .ok (.ctc2 2 1) ∧ decode 0x4B0208C7 = .ok (.vmudh 3 1 2 8) ∧
  decode 0x4A020890 = .ok (.vadd 2 1 2 0) ∧ decode 0x4B0308A5 = .ok (.vch 2 1 3 8) ∧
  decode 0x4B220171 = .ok (.vrcpl 5 0 2 9) ∧ decode 0x4A000037 = .ok .vnop ∧
  decode 0xC8212801 = .ok (.lrv 1 0 1 1) ∧ decode 0xE8032002 = .ok (.sqv 3 0 2 0) ∧
  decode 0xFC000000 = .error .illegalPrimary ∧ decode 0x0000000C = .error .illegalSpecialFunct

/-! ### Operands and helpers (R12, R110, R112, R200, R370) -/

/-- The helpers of R12: the saturations, each lane read as a number (`a / 65536` is `mid`, the floor), and the element
selector, whose table is that of R112: the lane of `vt` that feeds each lane of the operation. -/
def Obligations.VectorHelpers : Prop :=
  (∀ x : Int, (sat16 x).toInt = max (-32768) (min 32767 x)) ∧
  (∀ a : AccLane,
    clampS a = sat16 (a.toInt / 65536) ∧
    (clampU a).toNat =
      (if a.toInt / 65536 < 0 then 0 else if 32767 < a.toInt / 65536 then 0xFFFF
       else a.toNat / 65536 % 65536) ∧
    (clampL a).toNat =
      (if a.toInt / 65536 < -32768 then 0 else if 32767 < a.toInt / 65536 then 0xFFFF
       else a.toNat % 65536)) ∧
  ((List.range 16).map fun e => (List.finRange 8).map fun j => (sel (BitVec.ofNat 4 e) j).val) =
    [[0, 1, 2, 3, 4, 5, 6, 7], [0, 1, 2, 3, 4, 5, 6, 7], [0, 0, 2, 2, 4, 4, 6, 6],
     [1, 1, 3, 3, 5, 5, 7, 7], [0, 0, 0, 0, 4, 4, 4, 4], [1, 1, 1, 1, 5, 5, 5, 5],
     [2, 2, 2, 2, 6, 6, 6, 6], [3, 3, 3, 3, 7, 7, 7, 7], [0, 0, 0, 0, 0, 0, 0, 0],
     [1, 1, 1, 1, 1, 1, 1, 1], [2, 2, 2, 2, 2, 2, 2, 2], [3, 3, 3, 3, 3, 3, 3, 3],
     [4, 4, 4, 4, 4, 4, 4, 4], [5, 5, 5, 5, 5, 5, 5, 5], [6, 6, 6, 6, 6, 6, 6, 6],
     [7, 7, 7, 7, 7, 7, 7, 7]]

/-- The addresses the loads and stores compute, in numbers: base plus displacement mod 2^32 (R200, R110,
R370), the boundary at or below an address, and the 16-byte windows of R376, R388 and R391; a data address
counts mod 4096 (R71). -/
def Obligations.AddressArithmetic : Prop :=
  (∀ (s : State) (base : Reg) (imm : BitVec 16),
    s.ea base imm = BitVec.ofInt 32 ((s.x base).toNat + imm.toInt)) ∧
  (∀ (s : State) (base : Reg) (offset : BitVec 7) (scale : Nat),
    s.vaddr base offset scale = BitVec.ofInt 32 ((s.x base).toNat + offset.toInt * scale)) ∧
  (∀ addr : Word,
    quadOffset addr = addr.toNat % 16 ∧ (quadBase addr).toNat = addr.toNat / 16 * 16 ∧
    (windowBase addr).toNat = addr.toNat / 8 * 8) ∧
  (∀ (addr : Word) (i : Nat),
    windowAddr addr i = BitVec.ofNat 32 (addr.toNat / 8 * 8 + (addr.toNat % 8 + i) % 16)) ∧
  (∀ (addr : Word) (e : Elem) (m : Nat),
    transposedStoreAddr addr e m =
      BitVec.ofNat 32
        (addr.toNat / 8 * 8 + (addr.toNat % 8 + 16 - e.toNat / 2 * 2 + m) % 16)) ∧
  (∀ (s : State) (a b : Word), a.toNat % 4096 = b.toNat % 4096 → s.dm a = s.dm b ∧ s.im a = s.im b)

/-- The accessors of the register files: a write is read back, nothing else changes, register 0 stays zero
(R31), and a vector register's bytes and lanes are one pattern, byte 0 and lane 0 most significant
(R10, R40). -/
def Obligations.RegistersReadBack : Prop :=
  (∀ (s : State) (r q : Reg) (v : Word),
    (s.setX r v).x q = if q = 0 then 0 else if q = r then v else s.x q) ∧
  (∀ (s : State) (r q : Reg) (v : VReg), (s.setVreg r v).vreg q = if q = r then v else s.vreg q) ∧
  (∀ (s : State) (r q : Reg) (j k : Fin 8) (v : Half),
    (s.setLane r j v).lane q k = if q = r ∧ k = j then v else s.lane q k) ∧
  (∀ (s : State) (r q : Reg) (f : Elem → Option Byte) (k : Elem),
    (s.setVbytes r f).vbyte q k = if q = r then (f k).getD (s.vbyte r k) else s.vbyte q k) ∧
  (∀ (s : State) (r : Reg) (j : Fin 8),
    s.lane r j = s.vbyte r (BitVec.ofNat 4 (2 * j)) ++ s.vbyte r (BitVec.ofNat 4 (2 * j + 1)))

/-! ### Scalar arithmetic, logic and shifts (40_scalar_alu.md) -/

/-- ADD, ADDU, SUB, SUBU, AND, OR, XOR, NOR (R142-R149): a sum or difference mod 2^32, with no trap, or a bitwise
combination. -/
def Obligations.RegisterArithmeticAndLogic : Prop :=
  ∀ (s : State) (rd rs rt sa : BitVec 5),
    Means (formatR 0x00 rs rt rd sa 0x20) (.add rd rs rt) s (fun t =>
      WritesX s t rd (BitVec.ofNat 32 ((s.x rs).toNat + (s.x rt).toNat))) ∧
    Means (formatR 0x00 rs rt rd sa 0x21) (.addu rd rs rt) s (fun t =>
      WritesX s t rd (BitVec.ofNat 32 ((s.x rs).toNat + (s.x rt).toNat))) ∧
    Means (formatR 0x00 rs rt rd sa 0x22) (.sub rd rs rt) s (fun t =>
      WritesX s t rd (BitVec.ofInt 32 ((s.x rs).toNat - (s.x rt).toNat))) ∧
    Means (formatR 0x00 rs rt rd sa 0x23) (.subu rd rs rt) s (fun t =>
      WritesX s t rd (BitVec.ofInt 32 ((s.x rs).toNat - (s.x rt).toNat))) ∧
    Means (formatR 0x00 rs rt rd sa 0x24) (.and rd rs rt) s (fun t =>
      WritesX s t rd (s.x rs &&& s.x rt)) ∧
    Means (formatR 0x00 rs rt rd sa 0x25) (.or rd rs rt) s (fun t =>
      WritesX s t rd (s.x rs ||| s.x rt)) ∧
    Means (formatR 0x00 rs rt rd sa 0x26) (.xor rd rs rt) s (fun t =>
      WritesX s t rd (s.x rs ^^^ s.x rt)) ∧
    Means (formatR 0x00 rs rt rd sa 0x27) (.nor rd rs rt) s (fun t =>
      WritesX s t rd (~~~(s.x rs ||| s.x rt)))

/-- SLT, SLTU, SLTI, SLTIU (R150, R151, R160, R161): 1 or 0; SLTIU sign-extends, then compares unsigned. -/
def Obligations.SetOnLessThan : Prop :=
  ∀ (s : State) (rd rs rt sa : BitVec 5) (imm : BitVec 16),
    Means (formatR 0x00 rs rt rd sa 0x2A) (.slt rd rs rt) s (fun t =>
      WritesX s t rd (if (s.x rs).toInt < (s.x rt).toInt then 1 else 0)) ∧
    Means (formatR 0x00 rs rt rd sa 0x2B) (.sltu rd rs rt) s (fun t =>
      WritesX s t rd (if (s.x rs).toNat < (s.x rt).toNat then 1 else 0)) ∧
    Means (formatI 0x0A rs rt imm) (.slti rt rs imm) s (fun t =>
      WritesX s t rt (if (s.x rs).toInt < imm.toInt then 1 else 0)) ∧
    Means (formatI 0x0B rs rt imm) (.sltiu rt rs imm) s (fun t =>
      WritesX s t rt (if (s.x rs).toNat < (imm.signExtend 32).toNat then 1 else 0))

/-- SLL, SRL, SRA, SLLV, SRLV, SRAV (R152-R157): products and floor quotients by a power of two; a variable
amount is taken mod 32. -/
def Obligations.ScalarShifts : Prop :=
  ∀ (s : State) (rd rs rt sa : BitVec 5),
    Means (formatR 0x00 rs rt rd sa 0x00) (.sll rd rt sa) s (fun t =>
      WritesX s t rd (BitVec.ofNat 32 ((s.x rt).toNat * 2 ^ sa.toNat))) ∧
    Means (formatR 0x00 rs rt rd sa 0x02) (.srl rd rt sa) s (fun t =>
      WritesX s t rd (BitVec.ofNat 32 ((s.x rt).toNat / 2 ^ sa.toNat))) ∧
    Means (formatR 0x00 rs rt rd sa 0x03) (.sra rd rt sa) s (fun t =>
      WritesX s t rd (BitVec.ofInt 32 ((s.x rt).toInt / 2 ^ sa.toNat))) ∧
    Means (formatR 0x00 rs rt rd sa 0x04) (.sllv rd rt rs) s (fun t =>
      WritesX s t rd (BitVec.ofNat 32 ((s.x rt).toNat * 2 ^ ((s.x rs).toNat % 32)))) ∧
    Means (formatR 0x00 rs rt rd sa 0x06) (.srlv rd rt rs) s (fun t =>
      WritesX s t rd (BitVec.ofNat 32 ((s.x rt).toNat / 2 ^ ((s.x rs).toNat % 32)))) ∧
    Means (formatR 0x00 rs rt rd sa 0x07) (.srav rd rt rs) s (fun t =>
      WritesX s t rd (BitVec.ofInt 32 ((s.x rt).toInt / 2 ^ ((s.x rs).toNat % 32))))

/-- ADDI, ADDIU, ANDI, ORI, XORI, LUI (R158, R159, R162-R165). -/
def Obligations.ImmediateForms : Prop :=
  ∀ (s : State) (rs rt : BitVec 5) (imm : BitVec 16),
    Means (formatI 0x08 rs rt imm) (.addi rt rs imm) s (fun t =>
      WritesX s t rt (BitVec.ofInt 32 ((s.x rs).toNat + imm.toInt))) ∧
    Means (formatI 0x09 rs rt imm) (.addiu rt rs imm) s (fun t =>
      WritesX s t rt (BitVec.ofInt 32 ((s.x rs).toNat + imm.toInt))) ∧
    Means (formatI 0x0C rs rt imm) (.andi rt rs imm) s (fun t =>
      WritesX s t rt (BitVec.ofNat 32 ((s.x rs).toNat &&& imm.toNat))) ∧
    Means (formatI 0x0D rs rt imm) (.ori rt rs imm) s (fun t =>
      WritesX s t rt (BitVec.ofNat 32 ((s.x rs).toNat ||| imm.toNat))) ∧
    Means (formatI 0x0E rs rt imm) (.xori rt rs imm) s (fun t =>
      WritesX s t rt (BitVec.ofNat 32 ((s.x rs).toNat ^^^ imm.toNat))) ∧
    Means (formatI 0x0F rs rt imm) (.lui rt imm) s (fun t =>
      WritesX s t rt (BitVec.ofNat 32 (imm.toNat * 65536)))

/-! ### Control transfer (41_scalar_branch.md) -/

/-- J, JAL, JR, JALR outside a delay slot (R180, R182, R185-R188), for both values of DELAY_SLOT. -/
def Obligations.Jumps : Prop :=
  ∀ (s : State) (target : BitVec 26) (rs rt rd sa : BitVec 5), s.pend = .none →
    Means (formatJ 0x02 target) (.j target) s (fun t =>
      JumpsTo s t none true (BitVec.ofNat 32 (target.toNat % 1024 * 4))) ∧
    Means (formatJ 0x03 target) (.jal target) s (fun t =>
      JumpsTo s t (some 31) true (BitVec.ofNat 32 (target.toNat % 1024 * 4))) ∧
    Means (formatR 0x00 rs rt rd sa 0x08) (.jr rs) s (fun t =>
      JumpsTo s t none true (s.x rs &&& 0xFFC)) ∧
    Means (formatR 0x00 rs rt rd sa 0x09) (.jalr rd rs) s (fun t =>
      JumpsTo s t (some rd) true (s.x rs &&& 0xFFC))

/-- The eight branches outside a delay slot (R181, R189-R196): the condition, the target, and for BLTZAL and
BGEZAL the link, written whether the branch is taken or not. -/
def Obligations.Branches : Prop :=
  ∀ (s : State) (rs rt : BitVec 5) (imm : BitVec 16), s.pend = .none →
    let target : Word := BitVec.ofInt 32 ((cyclePc s).toNat + 4 + imm.toInt * 4) &&& 0xFFC
    let v : Int := (s.x rs).toInt
    Means (formatI 0x04 rs rt imm) (.beq rs rt imm) s (fun t =>
      JumpsTo s t none (decide (s.x rs = s.x rt)) target) ∧
    Means (formatI 0x05 rs rt imm) (.bne rs rt imm) s (fun t =>
      JumpsTo s t none (decide (s.x rs ≠ s.x rt)) target) ∧
    Means (formatI 0x06 rs rt imm) (.blez rs imm) s (fun t =>
      JumpsTo s t none (decide (v ≤ 0)) target) ∧
    Means (formatI 0x07 rs rt imm) (.bgtz rs imm) s (fun t =>
      JumpsTo s t none (decide (0 < v)) target) ∧
    Means (formatI 0x01 rs 0x00 imm) (.bltz rs imm) s (fun t =>
      JumpsTo s t none (decide (v < 0)) target) ∧
    Means (formatI 0x01 rs 0x01 imm) (.bgez rs imm) s (fun t =>
      JumpsTo s t none (decide (0 ≤ v)) target) ∧
    Means (formatI 0x01 rs 0x10 imm) (.bltzal rs imm) s (fun t =>
      JumpsTo s t (some 31) (decide (v < 0)) target) ∧
    Means (formatI 0x01 rs 0x11 imm) (.bgezal rs imm) s (fun t =>
      JumpsTo s t (some 31) (decide (0 ≤ v)) target)

/-- Every instruction in every state completes, but a control transfer in a delay slot, which is refused for
CTI_IN_DELAY_SLOT; nothing else refuses and nothing faults (R183, R440, R446, R447). -/
def Obligations.RefusesExactlyTransfersInSlots : Prop :=
  ∀ (i : Instr) (s : State),
    (i.isCti = true ∧ s.pend ≠ .none → exec i s = .refused .ctiInDelaySlot) ∧
    (¬(i.isCti = true ∧ s.pend ≠ .none) → ∃ t, exec i s = .next t)

/-- A refused cycle ends the host's `step` and changes nothing but the sticky mark (R414, R446).  A marked engine runs
no further cycle, and nothing the host does clears the mark (R446; what a step of a marked engine answers is the
model's choice, assumption log 6). -/
def Obligations.RefusedCycleLeavesStateButMark : Prop :=
  (∀ (s : State) (i : Instr) (n : Nat),
    s.refused = none → s.halted = false → decode s.fetch = .ok i → i.isCti = true → s.pend ≠ .none →
      step s = .refused .ctiInDelaySlot ∧
      hostStep (n + 1) s = ({ s with refused := some .ctiInDelaySlot }, some .ctiInDelaySlot)) ∧
  (∀ (s : State) (r : Refusal), s.refused = some r →
    step s = .refused r ∧
    (∀ n, hostStep n s = (s, some r) ∧ ¬RunsRefusalFree n s) ∧
    (∀ stop bound, endByAddress stop bound s = .refused s r)) ∧
  (∀ (s : State) (n : Nat), (hostStep n s).1.refused = (hostStep n s).2) ∧
  (∀ s : State, s.init.refused = s.refused ∧ (∀ f, (s.setHalted f).refused = s.refused) ∧
    (∀ v, (s.setPc v).refused = s.refused) ∧ (∀ n v, (s.setGPR n v).refused = s.refused) ∧
    (∀ i b t, s.setRawScalar i b = some t → t.refused = s.refused) ∧
    (∀ i b, (s.setRawVector i b).refused = s.refused) ∧
    (∀ r j v, (s.writeVectorLane r j v).refused = s.refused) ∧
    (∀ r a b, (s.writeByte r a b).refused = s.refused) ∧ (∀ r a v, (s.writeWord r a v).refused = s.refused) ∧
    ∀ r i b, (s.rawWrite r i b).refused = s.refused)

/-- The instruction after a control transfer runs before the transfer takes effect; then control is at the
target, or at `P + 8` if the branch was not taken.  With DELAY_SLOT false no slot is pending (R180, R413). -/
def Obligations.DelaySlotRunsBeforeTransfer : Prop :=
  ∀ (s t u : State) (i j : Instr),
    i.isCti = true → exec i s = .next t →
      (s.cfg.delaySlot = false → t.pend = .none) ∧
      (s.cfg.delaySlot = true → j.isCti = false → exec j t = .next u →
        t.pc = nextWord s ∧
        (∃ dest : Option RegionAddr, t.pend = .slot dest ∧
          u.pc = (match dest with | some target => target.setWidth 32 | none => (cyclePc s + 8) &&& 0xFFC)) ∧
        u.pend = .none ∧ u.cycles = s.cycles + 2)

/-! ### Scalar loads and stores (42_scalar_loadstore.md) -/

/-- LB, LH, LW, LBU, LHU, LWU (R203-R208): big-endian bytes at any alignment, each address mod 4096. -/
def Obligations.ScalarLoads : Prop :=
  ∀ (s : State) (rt base : Reg) (imm : BitVec 16),
    let a := s.ea base imm
    Means (formatI 0x20 base rt imm) (.lb rt imm base) s (fun t =>
      WritesX s t rt ((s.dm a).signExtend 32)) ∧
    Means (formatI 0x21 base rt imm) (.lh rt imm base) s (fun t =>
      WritesX s t rt ((s.dm a ++ s.dm (a + 1)).signExtend 32)) ∧
    Means (formatI 0x23 base rt imm) (.lw rt imm base) s (fun t =>
      WritesX s t rt (s.dm a ++ s.dm (a + 1) ++ s.dm (a + 2) ++ s.dm (a + 3))) ∧
    Means (formatI 0x24 base rt imm) (.lbu rt imm base) s (fun t =>
      WritesX s t rt ((s.dm a).setWidth 32)) ∧
    Means (formatI 0x25 base rt imm) (.lhu rt imm base) s (fun t =>
      WritesX s t rt ((s.dm a ++ s.dm (a + 1)).setWidth 32)) ∧
    Means (formatI 0x27 base rt imm) (.lwu rt imm base) s (fun t =>
      WritesX s t rt (s.dm a ++ s.dm (a + 1) ++ s.dm (a + 2) ++ s.dm (a + 3)))

/-- SB, SH, SW (R209-R211): the low bytes of `x[rt]`, the most significant at the lowest address; every
other byte of memory unchanged. -/
def Obligations.ScalarStores : Prop :=
  ∀ (s : State) (rt base : Reg) (imm : BitVec 16),
    Means (formatI 0x28 base rt imm) (.sb rt imm base) s (fun t =>
      Stores s t 1 (fun k => s.ea base imm + BitVec.ofNat 32 k)
        (fun _ => (s.x rt).extractLsb' 0 8)) ∧
    Means (formatI 0x29 base rt imm) (.sh rt imm base) s (fun t =>
      Stores s t 2 (fun k => s.ea base imm + BitVec.ofNat 32 k)
        (fun k => (s.x rt).extractLsb' (8 * (1 - k)) 8)) ∧
    Means (formatI 0x2B base rt imm) (.sw rt imm base) s (fun t =>
      Stores s t 4 (fun k => s.ea base imm + BitVec.ofNat 32 k)
        (fun k => (s.x rt).extractLsb' (8 * (3 - k)) 8))

/-- R72: a word stored by SW, at any address, is read back whole by LW, as its halves by LHU at +0 and +2, and as
its bytes by LBU at +0 .. +3, whatever base and displacement the loads reach the address by. -/
def Obligations.StoredWordReadsBack : Prop :=
  ∀ (s t u : State) (rt base rd b : Reg) (imm disp : BitVec 16),
    exec (.sw rt imm base) s = .next t → rd ≠ 0 →
      (t.ea b disp = s.ea base imm → exec (.lw rd disp b) t = .next u → u.x rd = s.x rt) ∧
      (t.ea b disp = s.ea base imm → exec (.lhu rd disp b) t = .next u →
        (u.x rd).toNat = (s.x rt).toNat / 65536) ∧
      (t.ea b disp = s.ea base imm + 2 → exec (.lhu rd disp b) t = .next u →
        (u.x rd).toNat = (s.x rt).toNat % 65536) ∧
      ∀ k : Nat, k < 4 → t.ea b disp = s.ea base imm + BitVec.ofNat 32 k →
        exec (.lbu rd disp b) t = .next u →
          (u.x rd).toNat = (s.x rt).toNat / 2 ^ (8 * (3 - k)) % 256

/-! ### BREAK and the coprocessor moves (43_scalar_cop_moves.md) -/

/-- BREAK, MTC0, VNOP and VNULL change nothing but `pc`, `pend` and `cycles` (R220, R223, R348), whatever
their ignored fields hold. -/
def Obligations.NoEffectInstructions : Prop :=
  ∀ (s : State) (code : BitVec 20) (rt rd : Reg) (e : Elem) (ignored : BitVec 7) (vt vs vd : Reg),
    Means (formatBreak code) (.brk code) s (NoEffect s) ∧
    Means (formatMWith 0x10 0x04 rt rd e ignored) (.mtc0 rt rd) s (NoEffect s) ∧
    Means (formatV e vt vs vd 0x37) .vnop s (NoEffect s) ∧
    Means (formatV e vt vs vd 0x3F) .vnull s (NoEffect s)

/-- CFC2 and CTC2 (R224, R225): the flag register `rd & 3` (0 VCO, 1 VCC, 2 and 3 VCE) read sign-extended
from 16 bits, and written with the low bits of `x[rt]`. -/
def Obligations.FlagRegisterMoves : Prop :=
  ∀ (s : State) (rt rd : Reg) (e : Elem) (ignored : BitVec 7),
    let c := rd.toNat % 4
    Means (formatMWith 0x12 0x02 rt rd e ignored) (.cfc2 rt rd) s (fun t =>
      WritesX s t rt
        (if c = 0 then s.vco.signExtend 32 else if c = 1 then s.vcc.signExtend 32
         else s.vce.setWidth 32)) ∧
    Means (formatMWith 0x12 0x06 rt rd e ignored) (.ctc2 rt rd) s (fun t =>
      t.vco = (if c = 0 then (s.x rt).extractLsb' 0 16 else s.vco) ∧
      t.vcc = (if c = 1 then (s.x rt).extractLsb' 0 16 else s.vcc) ∧
      t.vce = (if 2 ≤ c then (s.x rt).extractLsb' 0 8 else s.vce) ∧
      SameScalar s t ∧ SameVregs s t ∧ SameAcc s t ∧ SameDivide s t ∧ SameDmem s t ∧ SameImem s t ∧
      SameControl s t ∧ t.draws = s.draws ∧ Retires s t)

/-- MFC2 and MTC2 (R226, R227): two bytes from byte `e` on; MFC2 wraps from byte 15 to byte 0, MTC2 does
not. -/
def Obligations.VectorElementMoves : Prop :=
  ∀ (s : State) (rt rd : Reg) (e : Elem) (ignored : BitVec 7),
    Means (formatMWith 0x12 0x00 rt rd e ignored) (.mfc2 rt rd e) s (fun t =>
      WritesX s t rt ((s.vbyte rd e ++ s.vbyte rd (e + 1)).signExtend 32)) ∧
    Means (formatMWith 0x12 0x04 rt rd e ignored) (.mtc2 rt rd e) s (fun t =>
      WritesVbytes s t rd fun k =>
        if k = e then (s.x rt).extractLsb' 8 8
        else if k.toNat = e.toNat + 1 then (s.x rt).extractLsb' 0 8
        else s.vbyte rd k)

/-! ### Vector multiply (44_vector_multiply.md) -/

/-- VMULF, VMULU, VMULQ (R242-R244). -/
def Obligations.FractionMultiplies : Prop :=
  ∀ (s : State) (vd vs vt : Reg) (e : Elem),
    let a := fun j : Fin 8 => (s.lane vs j).toInt
    let b := fun j : Fin 8 => (s.lane vt (sel e j)).toInt
    let f := fun j => BitVec.ofInt 48 (2 * a j * b j + 0x8000)
    let p := fun j => if a j * b j < 0 then a j * b j + 31 else a j * b j
    Means (formatV e vt vs vd 0x00) (.vmulf vd vs vt e) s (fun t =>
      WritesLanes s t vd f (fun j => clampS (f j)) ∧ SameFlags s t ∧ SameDivide s t) ∧
    Means (formatV e vt vs vd 0x01) (.vmulu vd vs vt e) s (fun t =>
      WritesLanes s t vd f (fun j => clampU (f j)) ∧ SameFlags s t ∧ SameDivide s t) ∧
    Means (formatV e vt vs vd 0x03) (.vmulq vd vs vt e) s (fun t =>
      WritesLanes s t vd (fun j => BitVec.ofInt 48 (p j * 65536))
        (fun j => sat16 (p j / 2) &&& 0xFFF0) ∧ SameFlags s t ∧ SameDivide s t)

/-- VMUDL, VMUDM, VMUDN, VMUDH (R245-R248), with the equalities of destination and clamp the rules claim. -/
def Obligations.DoublePrecisionMultiplies : Prop :=
  ∀ (s : State) (vd vs vt : Reg) (e : Elem),
    let a := fun j : Fin 8 => (s.lane vs j).toInt
    let b := fun j : Fin 8 => (s.lane vt (sel e j)).toInt
    let au := fun j : Fin 8 => (s.lane vs j).toNat
    let bu := fun j : Fin 8 => (s.lane vt (sel e j)).toNat
    let l := fun j => BitVec.ofNat 48 (au j * bu j / 65536)
    let m := fun j => BitVec.ofInt 48 (a j * bu j)
    let n := fun j => BitVec.ofInt 48 (au j * b j)
    let h := fun j => BitVec.ofInt 48 (a j * b j * 65536)
    Means (formatV e vt vs vd 0x04) (.vmudl vd vs vt e) s (fun t =>
      WritesLanes s t vd l (fun j => (l j).extractLsb' 0 16) ∧ (∀ j, t.lane vd j = clampL (l j)) ∧
      SameFlags s t ∧ SameDivide s t) ∧
    Means (formatV e vt vs vd 0x05) (.vmudm vd vs vt e) s (fun t =>
      WritesLanes s t vd m (fun j => (m j).extractLsb' 16 16) ∧ (∀ j, t.lane vd j = clampS (m j)) ∧
      SameFlags s t ∧ SameDivide s t) ∧
    Means (formatV e vt vs vd 0x06) (.vmudn vd vs vt e) s (fun t =>
      WritesLanes s t vd n (fun j => (n j).extractLsb' 0 16) ∧ (∀ j, t.lane vd j = clampL (n j)) ∧
      SameFlags s t ∧ SameDivide s t) ∧
    Means (formatV e vt vs vd 0x07) (.vmudh vd vs vt e) s (fun t =>
      WritesLanes s t vd h (fun j => clampS (h j)) ∧ (∀ j, t.lane vd j = sat16 (a j * b j)) ∧
      SameFlags s t ∧ SameDivide s t)

/-- VMACF, VMACU, VMADL, VMADM, VMADN, VMADH (R251, R252, R254-R257): the exact sum mod 2^48, then the
clamp. -/
def Obligations.MultiplyAccumulates : Prop :=
  ∀ (s : State) (vd vs vt : Reg) (e : Elem),
    let old := fun j : Fin 8 => (s.accLane j).toInt
    let a := fun j : Fin 8 => (s.lane vs j).toInt
    let b := fun j : Fin 8 => (s.lane vt (sel e j)).toInt
    let au := fun j : Fin 8 => (s.lane vs j).toNat
    let bu := fun j : Fin 8 => (s.lane vt (sel e j)).toNat
    let f := fun j => BitVec.ofInt 48 (old j + 2 * a j * b j)
    let l := fun j => BitVec.ofInt 48 (old j + (au j * bu j / 65536 : Nat))
    let m := fun j => BitVec.ofInt 48 (old j + a j * bu j)
    let n := fun j => BitVec.ofInt 48 (old j + au j * b j)
    let h := fun j => BitVec.ofInt 48 (old j + a j * b j * 65536)
    Means (formatV e vt vs vd 0x08) (.vmacf vd vs vt e) s (fun t =>
      WritesLanes s t vd f (fun j => clampS (f j)) ∧ SameFlags s t ∧ SameDivide s t) ∧
    Means (formatV e vt vs vd 0x09) (.vmacu vd vs vt e) s (fun t =>
      WritesLanes s t vd f (fun j => clampU (f j)) ∧ SameFlags s t ∧ SameDivide s t) ∧
    Means (formatV e vt vs vd 0x0C) (.vmadl vd vs vt e) s (fun t =>
      WritesLanes s t vd l (fun j => clampL (l j)) ∧ SameFlags s t ∧ SameDivide s t) ∧
    Means (formatV e vt vs vd 0x0D) (.vmadm vd vs vt e) s (fun t =>
      WritesLanes s t vd m (fun j => clampS (m j)) ∧ SameFlags s t ∧ SameDivide s t) ∧
    Means (formatV e vt vs vd 0x0E) (.vmadn vd vs vt e) s (fun t =>
      WritesLanes s t vd n (fun j => clampL (n j)) ∧ SameFlags s t ∧ SameDivide s t) ∧
    Means (formatV e vt vs vd 0x0F) (.vmadh vd vs vt e) s (fun t =>
      WritesLanes s t vd h (fun j => clampS (h j)) ∧ SameFlags s t ∧ SameDivide s t)

/-- VRNDP, VRNDN (R249, R250): bit 0 of the `vs` field selects the shift, and the sign of the accumulator selects the
lanes that are rounded.  VMACQ (R253): bits 47:16 of each lane move one step of 32 towards zero unless their bit 5 is
set or they lie in 0 .. 31; ACC_LO is unchanged, and `vs`, `vt` and `e` do not matter. -/
def Obligations.AccumulatorRounding : Prop :=
  ∀ (s : State) (vd vs vt : Reg) (e : Elem),
    let old := fun j : Fin 8 => (s.accLane j).toInt
    let r := fun j : Fin 8 =>
      (s.lane vt (sel e j)).toInt * (if vs.toNat % 2 = 1 then 65536 else 1)
    let p := fun j => if 0 ≤ old j then BitVec.ofInt 48 (old j + r j) else s.accLane j
    let n := fun j => if old j < 0 then BitVec.ofInt 48 (old j + r j) else s.accLane j
    Means (formatV e vt vs vd 0x02) (.vrndp vd (vs.setWidth 1) vt e) s (fun t =>
      WritesLanes s t vd p (fun j => clampS (p j)) ∧ SameFlags s t ∧ SameDivide s t) ∧
    Means (formatV e vt vs vd 0x0A) (.vrndn vd (vs.setWidth 1) vt e) s (fun t =>
      WritesLanes s t vd n (fun j => clampS (n j)) ∧ SameFlags s t ∧ SameDivide s t) ∧
    let q := fun j : Fin 8 => (s.accLane j).toInt / 65536
    let q' := fun j : Fin 8 =>
      if q j < 0 ∧ q j / 32 % 2 = 0 then q j + 32
      else if 32 ≤ q j ∧ q j / 32 % 2 = 0 then q j - 32
      else q j
    Means (formatV e vt vs vd 0x0B) (.vmacq vd vs vt e) s (fun t =>
      WritesLanes s t vd (fun j => BitVec.ofInt 32 (q' j) ++ (s.accLane j).extractLsb' 0 16)
        (fun j => sat16 (q' j / 2) &&& 0xFFF0) ∧ SameFlags s t ∧ SameDivide s t)

/-! ### Vector add, logic, accumulator read, reserved opcodes (45_vector_add_logic.md) -/

/-- VADD, VSUB, VABS (R281-R283): the destination saturates, ACC_LO wraps; VADD and VSUB take the carry in and clear
VCO.  VADDC and VSUBC (R284, R285): unsaturated; VCO takes the carry or borrow out and, for VSUBC, the not-equal
bits, and the old VCO is not read. -/
def Obligations.VectorAdds : Prop :=
  ∀ (s : State) (vd vs vt : Reg) (e : Elem),
    let a := fun j : Fin 8 => (s.lane vs j).toInt
    let b := fun j : Fin 8 => (s.lane vt (sel e j)).toInt
    let c := fun j : Fin 8 => if s.carry j then (1 : Int) else 0
    let au := fun j : Fin 8 => (s.lane vs j).toNat
    let bu := fun j : Fin 8 => (s.lane vt (sel e j)).toNat
    Means (formatV e vt vs vd 0x10) (.vadd vd vs vt e) s (fun t =>
      WritesLoLanes s t vd (fun j => BitVec.ofInt 16 (a j + b j + c j))
        (fun j => sat16 (a j + b j + c j)) ∧
      t.vco = 0 ∧ t.vcc = s.vcc ∧ t.vce = s.vce ∧ SameDivide s t) ∧
    Means (formatV e vt vs vd 0x11) (.vsub vd vs vt e) s (fun t =>
      WritesLoLanes s t vd (fun j => BitVec.ofInt 16 (a j - b j - c j))
        (fun j => sat16 (a j - b j - c j)) ∧
      t.vco = 0 ∧ t.vcc = s.vcc ∧ t.vce = s.vce ∧ SameDivide s t) ∧
    Means (formatV e vt vs vd 0x13) (.vabs vd vs vt e) s (fun t =>
      WritesLoLanes s t vd
        (fun j => BitVec.ofInt 16 (if a j < 0 then -(b j) else if a j = 0 then 0 else b j))
        (fun j => sat16 (if a j < 0 then -(b j) else if a j = 0 then 0 else b j)) ∧
      SameFlags s t ∧ SameDivide s t) ∧
    Means (formatV e vt vs vd 0x14) (.vaddc vd vs vt e) s (fun t =>
      WritesLoLanes s t vd (fun j => BitVec.ofNat 16 (au j + bu j))
        (fun j => BitVec.ofNat 16 (au j + bu j)) ∧
      (∀ j, t.carry j = decide (65536 ≤ au j + bu j) ∧ t.notEqual j = false) ∧
      t.vcc = s.vcc ∧ t.vce = s.vce ∧ SameDivide s t) ∧
    Means (formatV e vt vs vd 0x15) (.vsubc vd vs vt e) s (fun t =>
      WritesLoLanes s t vd (fun j => BitVec.ofInt 16 ((au j : Int) - bu j))
        (fun j => BitVec.ofInt 16 ((au j : Int) - bu j)) ∧
      (∀ j, t.carry j = decide (au j < bu j) ∧ t.notEqual j = decide (au j ≠ bu j)) ∧
      t.vcc = s.vcc ∧ t.vce = s.vce ∧ SameDivide s t)

/-- VSAR (R286): a plane of the accumulator for e = 8, 9, 10, else zeros; the accumulator and the flags are
unchanged. -/
def Obligations.AccumulatorRead : Prop :=
  ∀ (s : State) (vd vs vt : Reg) (e : Elem),
    Means (formatV e vt vs vd 0x1D) (.vsar vd e) s (fun t =>
      WritesVlanes s t vd fun j =>
        if e = 8 then (s.accLane j).extractLsb' 32 16
        else if e = 9 then (s.accLane j).extractLsb' 16 16
        else if e = 10 then (s.accLane j).extractLsb' 0 16
        else 0)

/-- VAND, VNAND, VOR, VNOR, VXOR, VNXOR (R287-R292). -/
def Obligations.VectorLogic : Prop :=
  ∀ (s : State) (vd vs vt : Reg) (e : Elem),
    let a := s.lane vs
    let b := fun j => s.lane vt (sel e j)
    let writes := fun (f : Fin 8 → Half) (t : State) =>
      WritesLoLanes s t vd f f ∧ SameFlags s t ∧ SameDivide s t
    Means (formatV e vt vs vd 0x28) (.vand vd vs vt e) s (writes fun j => a j &&& b j) ∧
    Means (formatV e vt vs vd 0x29) (.vnand vd vs vt e) s (writes fun j => ~~~(a j &&& b j)) ∧
    Means (formatV e vt vs vd 0x2A) (.vor vd vs vt e) s (writes fun j => a j ||| b j) ∧
    Means (formatV e vt vs vd 0x2B) (.vnor vd vs vt e) s (writes fun j => ~~~(a j ||| b j)) ∧
    Means (formatV e vt vs vd 0x2C) (.vxor vd vs vt e) s (writes fun j => a j ^^^ b j) ∧
    Means (formatV e vt vs vd 0x2D) (.vnxor vd vs vt e) s (writes fun j => ~~~(a j ^^^ b j))

/-- The 19 reserved vector opcodes (R295), under each value of RESERVED_VU: VZERO writes the wrapped sum to
ACC_LO and zero to `vd`; NOP has no effect. -/
def Obligations.ReservedVectorOpcodes : Prop :=
  ∀ (s : State) (vd vs vt : Reg) (e : Elem),
    ∀ op ∈ ([(0x12, .vrsvd12), (0x16, .vrsvd16), (0x17, .vrsvd17), (0x18, .vrsvd18), (0x19, .vrsvd19),
        (0x1A, .vrsvd1a), (0x1B, .vrsvd1b), (0x1C, .vrsvd1c), (0x1E, .vrsvd1e), (0x1F, .vrsvd1f),
        (0x2E, .vrsvd2e), (0x2F, .vrsvd2f), (0x38, .vrsvd38), (0x39, .vrsvd39), (0x3A, .vrsvd3a),
        (0x3B, .vrsvd3b), (0x3C, .vrsvd3c), (0x3D, .vrsvd3d), (0x3E, .vrsvd3e)] :
        List (BitVec 6 × (Reg → Reg → Reg → Elem → Instr))),
      Means (formatV e vt vs vd op.1) (op.2 vd vs vt e) s (fun t =>
        (s.cfg.reservedVu = .vzero →
          WritesLoLanes s t vd
            (fun j => BitVec.ofInt 16 ((s.lane vs j).toInt + (s.lane vt (sel e j)).toInt))
            (fun _ => 0) ∧ SameFlags s t ∧ SameDivide s t) ∧
        (s.cfg.reservedVu = .nop → NoEffect s t))

/-! ### Vector compare, clip and merge (46_vector_compare_select.md) -/

/-- VLT, VEQ, VNE, VGE (R311-R314): `VCC[j]` is the comparison and selects the lane, `VCC[8+j]` and VCO are
cleared; VEQ always gives `vte[j]` and VNE always `vs`. -/
def Obligations.VectorCompares : Prop :=
  ∀ (s : State) (vd vs vt : Reg) (e : Elem),
    let a := fun j : Fin 8 => (s.lane vs j).toInt
    let b := fun j : Fin 8 => (s.lane vt (sel e j)).toInt
    let lt := fun j =>
      decide (a j < b j ∨ (a j = b j ∧ s.notEqual j = true ∧ s.carry j = true))
    let eq := fun j => decide (a j = b j ∧ s.notEqual j = false)
    let ne := fun j => decide (a j ≠ b j ∨ s.notEqual j = true)
    let ge := fun j =>
      decide (b j < a j ∨ (a j = b j ∧ ¬(s.notEqual j = true ∧ s.carry j = true)))
    let compares := fun (test : Fin 8 → Bool) (t : State) =>
      let res := fun j => if test j then s.lane vs j else s.lane vt (sel e j)
      WritesLoLanes s t vd res res ∧ (∀ j, t.cmp j = test j ∧ t.clip j = false) ∧
      t.vco = 0 ∧ t.vce = s.vce ∧ SameDivide s t
    Means (formatV e vt vs vd 0x20) (.vlt vd vs vt e) s (compares lt) ∧
    Means (formatV e vt vs vd 0x21) (.veq vd vs vt e) s (fun t =>
      compares eq t ∧ ∀ j, t.lane vd j = s.lane vt (sel e j)) ∧
    Means (formatV e vt vs vd 0x22) (.vne vd vs vt e) s (fun t =>
      compares ne t ∧ ∀ j, t.lane vd j = s.lane vs j) ∧
    Means (formatV e vt vs vd 0x23) (.vge vd vs vt e) s (compares ge)

/-- VCH (R315): every flag register is written. -/
def Obligations.ClipTestHigh : Prop :=
  ∀ (s : State) (vd vs vt : Reg) (e : Elem),
    let a := fun j : Fin 8 => (s.lane vs j).toInt
    let b := fun j : Fin 8 => (s.lane vt (sel e j)).toInt
    let sign := fun j => decide (decide (a j < 0) ≠ decide (b j < 0))
    let sum := fun j => if sign j then a j + b j else a j - b j
    let le := fun j => if sign j then decide (sum j ≤ 0) else decide (b j < 0)
    let ge := fun j => if sign j then decide (b j < 0) else decide (0 ≤ sum j)
    let ext := fun j => decide (sign j = true ∧ sum j = -1)
    let res := fun j =>
      if sign j then (if le j then BitVec.ofInt 16 (-(b j)) else s.lane vs j)
      else (if ge j then s.lane vt (sel e j) else s.lane vs j)
    Means (formatV e vt vs vd 0x25) (.vch vd vs vt e) s (fun t =>
      WritesLoLanes s t vd res res ∧
      (∀ j, t.cmp j = le j ∧ t.clip j = ge j ∧ t.carry j = sign j ∧
        t.notEqual j = decide (sum j ≠ 0 ∧ ext j = false) ∧ t.ext j = ext j) ∧
      SameDivide s t)

/-- VCL (R316): the carry of a lane says which half of VCC it may write, the not-equal flag whether it
does; VCO and VCE are cleared. -/
def Obligations.ClipTestLow : Prop :=
  ∀ (s : State) (vd vs vt : Reg) (e : Elem),
    let au := fun j : Fin 8 => (s.lane vs j).toNat
    let bu := fun j : Fin 8 => (s.lane vt (sel e j)).toNat
    let carry := fun j => decide (65536 ≤ au j + bu j)
    let zero := fun j => decide ((au j + bu j) % 65536 = 0)
    let le := fun j =>
      if s.notEqual j then s.cmp j
      else if s.ext j then zero j || !carry j else zero j && !carry j
    let ge := fun j => if s.notEqual j then s.clip j else decide (bu j ≤ au j)
    let res := fun j =>
      if s.carry j then (if le j then BitVec.ofInt 16 (-(bu j : Int)) else s.lane vs j)
      else (if ge j then s.lane vt (sel e j) else s.lane vs j)
    Means (formatV e vt vs vd 0x24) (.vcl vd vs vt e) s (fun t =>
      WritesLoLanes s t vd res res ∧
      (∀ j, t.cmp j = (if s.carry j then le j else s.cmp j) ∧
        t.clip j = (if s.carry j then s.clip j else ge j)) ∧
      t.vco = 0 ∧ t.vce = 0 ∧ SameDivide s t)

/-- VCR (R317): clips to one's-complement ranges; VCO and VCE are cleared. -/
def Obligations.ClipTestOnesComplement : Prop :=
  ∀ (s : State) (vd vs vt : Reg) (e : Elem),
    let a := fun j : Fin 8 => (s.lane vs j).toInt
    let b := fun j : Fin 8 => (s.lane vt (sel e j)).toInt
    let sign := fun j => decide (decide (a j < 0) ≠ decide (b j < 0))
    let le := fun j => if sign j then decide (a j + b j + 1 ≤ 0) else decide (b j < 0)
    let ge := fun j => if sign j then decide (b j < 0) else decide (0 ≤ a j - b j)
    let res := fun j =>
      if sign j then (if le j then ~~~(s.lane vt (sel e j)) else s.lane vs j)
      else (if ge j then s.lane vt (sel e j) else s.lane vs j)
    Means (formatV e vt vs vd 0x26) (.vcr vd vs vt e) s (fun t =>
      WritesLoLanes s t vd res res ∧ (∀ j, t.cmp j = le j ∧ t.clip j = ge j) ∧
      t.vco = 0 ∧ t.vce = 0 ∧ SameDivide s t)

/-- VMRG (R318), for both values of VMRG_CLEARS_VCO. -/
def Obligations.MergeSelectsByCompareFlags : Prop :=
  ∀ (s : State) (vd vs vt : Reg) (e : Elem),
    let res := fun j => if s.cmp j then s.lane vs j else s.lane vt (sel e j)
    Means (formatV e vt vs vd 0x27) (.vmrg vd vs vt e) s (fun t =>
      WritesLoLanes s t vd res res ∧
      t.vco = (if s.cfg.vmrgClearsVco then 0 else s.vco) ∧ t.vcc = s.vcc ∧ t.vce = s.vce ∧
      SameDivide s t)

/-! ### Vector single-lane operations (47_vector_single_lane.md) -/

/-- VRCP, VRCPL, VRSQ, VRSQL (R343-R345, R347, R349): the 32-bit result of the input, the magnitude's leading bits
indexing an OPEN table; its low half goes to the lane, its high half to DIVOUT.  With DIVDP clear the "low"
forms are the single-precision ones. -/
def Obligations.ReciprocalResults : Prop :=
  ∀ (s : State) (vd de vt : BitVec 5) (e : Elem),
    let src := s.lane vt (Fin.ofNat 8 e.toNat)
    let single : Word := src.signExtend 32
    let double : Word := if s.divDp then s.divIn ++ src else src.signExtend 32
    let gives := fun (r : Word) (t : State) =>
      WritesOneLane s t vd de vt e (r.extractLsb' 0 16) ∧
      t.divOut = r.extractLsb' 16 16 ∧ t.divDp = false ∧ t.divIn = s.divIn
    Means (formatV e vt de vd 0x30) (.vrcp vd de vt e) s (gives (reciprocalValue single)) ∧
    Means (formatV e vt de vd 0x31) (.vrcpl vd de vt e) s (gives (reciprocalValue double)) ∧
    Means (formatV e vt de vd 0x34) (.vrsq vd de vt e) s (gives (reciprocalSqrtValue single)) ∧
    Means (formatV e vt de vd 0x35) (.vrsql vd de vt e) s (gives (reciprocalSqrtValue double))

/-- VRCPH and VRSQH (R346, R350): the old DIVOUT goes to the lane, the source to DIVIN, DIVDP is set.  VMOV (R351):
one lane, through the element selector; the divide state is unchanged.  That VMOV takes its destination lane from
bits 15:11, as R105 and R351 say, though R121 lists them as ignored, is the model's reading (assumption log 15). -/
def Obligations.SingleLaneMoves : Prop :=
  ∀ (s : State) (vd de vt : BitVec 5) (e : Elem),
    let moves := fun (t : State) =>
      WritesOneLane s t vd de vt e s.divOut ∧
      t.divIn = s.lane vt (Fin.ofNat 8 e.toNat) ∧ t.divDp = true ∧ t.divOut = s.divOut
    Means (formatV e vt de vd 0x32) (.vrcph vd de vt e) s moves ∧
    Means (formatV e vt de vd 0x36) (.vrsqh vd de vt e) s moves ∧
    Means (formatV e vt de vd 0x33) (.vmov vd de vt e) s (fun t =>
      WritesOneLane s t vd de vt e (s.lane vt (sel e (Fin.ofNat 8 de.toNat))) ∧ SameDivide s t)

/-- R341, R477: a high instruction, then any one instruction outside the divide unit, then a low instruction:
the low one's input is the two sources as one 32-bit value, and the result is that of the 32-bit
reciprocal. -/
def Obligations.DoublePrecisionReciprocal : Prop :=
  ∀ (s t u v : State) (d1 de1 vt1 d2 de2 vt2 : BitVec 5) (e1 e2 : Elem) (i hi : Instr),
    hi = .vrcph d1 de1 vt1 e1 ∨ hi = .vrsqh d1 de1 vt1 e1 →
    exec hi s = .next t → i.usesDivideUnit = false → exec i t = .next u →
    exec (.vrcpl d2 de2 vt2 e2) u = .next v →
      let result := reciprocalValue
        (s.lane vt1 (Fin.ofNat 8 e1.toNat) ++ u.lane vt2 (Fin.ofNat 8 e2.toNat))
      v.lane d2 (Fin.ofNat 8 de2.toNat) = result.extractLsb' 0 16 ∧
      v.divOut = result.extractLsb' 16 16 ∧ v.divDp = false

/-! ### Vector loads and stores (48_vector_loadstore.md) -/

/-- LBV, LSV, LLV, LDV, LQV, LRV (R372-R375): a run of bytes into the register, ending at byte 15 (and LQV at
the 16-byte boundary of memory); LRV the bytes below that boundary. -/
def Obligations.VectorRunLoads : Prop :=
  ∀ (s : State) (vt base : Reg) (e : Elem) (offset : BitVec 7),
    let run := fun (n : Nat) (addr : Word) (k : Elem) =>
      if e.toNat ≤ k.toNat ∧ k.toNat < min (e.toNat + n) 16 then
        s.dm (addr + BitVec.ofNat 32 (k.toNat - e.toNat))
      else s.vbyte vt k
    let quad := s.vaddr base offset 16
    let start := 16 + e.toNat - quad.toNat % 16
    Means (formatVM 0x32 base vt 0x00 e offset) (.lbv vt e offset base) s (fun t =>
      WritesVbytes s t vt (run 1 (s.vaddr base offset 1))) ∧
    Means (formatVM 0x32 base vt 0x01 e offset) (.lsv vt e offset base) s (fun t =>
      WritesVbytes s t vt (run 2 (s.vaddr base offset 2))) ∧
    Means (formatVM 0x32 base vt 0x02 e offset) (.llv vt e offset base) s (fun t =>
      WritesVbytes s t vt (run 4 (s.vaddr base offset 4))) ∧
    Means (formatVM 0x32 base vt 0x03 e offset) (.ldv vt e offset base) s (fun t =>
      WritesVbytes s t vt (run 8 (s.vaddr base offset 8))) ∧
    Means (formatVM 0x32 base vt 0x04 e offset) (.lqv vt e offset base) s (fun t =>
      WritesVbytes s t vt (run (min (16 - quad.toNat % 16) (16 - e.toNat)) quad)) ∧
    Means (formatVM 0x32 base vt 0x05 e offset) (.lrv vt e offset base) s (fun t =>
      WritesVbytes s t vt fun k =>
        if start ≤ k.toNat then
          s.dm (BitVec.ofNat 32 (quad.toNat / 16 * 16 + (k.toNat - start)))
        else s.vbyte vt k)

/-- LPV, LUV, LHV, LFV (R376-R379): bytes of the 16-byte window at `addr & ~7`, rotated by `e`, into the
high bits of the lanes. -/
def Obligations.VectorPackedLoads : Prop :=
  ∀ (s : State) (vt base : Reg) (e : Elem) (offset : BitVec 7),
    let byte := fun (addr : Word) (i : Nat) =>
      (s.dm (BitVec.ofNat 32
        (addr.toNat / 8 * 8 + (addr.toNat % 8 + 16 - e.toNat + i) % 16))).toNat
    let a8 := s.vaddr base offset 8
    let a16 := s.vaddr base offset 16
    let tmp := fun (i : Nat) =>
      BitVec.ofNat 16 (byte a16 (if i < 4 then 4 * i else 4 * (i - 4) + 8) * 128)
    Means (formatVM 0x32 base vt 0x06 e offset) (.lpv vt e offset base) s (fun t =>
      WritesVlanes s t vt fun i => BitVec.ofNat 16 (byte a8 i * 256)) ∧
    Means (formatVM 0x32 base vt 0x07 e offset) (.luv vt e offset base) s (fun t =>
      WritesVlanes s t vt fun i => BitVec.ofNat 16 (byte a8 i * 128)) ∧
    Means (formatVM 0x32 base vt 0x08 e offset) (.lhv vt e offset base) s (fun t =>
      WritesVlanes s t vt fun i => BitVec.ofNat 16 (byte a16 (2 * i) * 128)) ∧
    Means (formatVM 0x32 base vt 0x09 e offset) (.lfv vt e offset base) s (fun t =>
      WritesVbytes s t vt fun k =>
        if e.toNat ≤ k.toNat ∧ k.toNat < min (e.toNat + 8) 16 then
          (if k.toNat % 2 = 0 then (tmp (k.toNat / 2)).extractLsb' 8 8
           else (tmp (k.toNat / 2)).extractLsb' 0 8)
        else s.vbyte vt k)

/-- LTV (R381): of each register `n` of the group of eight, the one lane `i` with
`((e >> 1) + i) & 7 = n & 7` takes the `i`-th halfword of the window, which is read round from
`(e + (addr & 8)) & 15`. -/
def Obligations.TransposedLoad : Prop :=
  ∀ (s : State) (vt base : Reg) (e : Elem) (offset : BitVec 7),
    let addr := s.vaddr base offset 16
    let byte := fun (m : Nat) =>
      s.dm (BitVec.ofNat 32
        (addr.toNat / 8 * 8 + (e.toNat + addr.toNat / 8 % 2 * 8 + m) % 16))
    Means (formatVM 0x32 base vt 0x0B e offset) (.ltv vt e offset base) s (fun t =>
      (∀ (n : Reg) (i : Fin 8), t.lane n i =
        if n.toNat / 8 = vt.toNat / 8 ∧ (e.toNat / 2 + i) % 8 = n.toNat % 8 then
          byte (2 * i) ++ byte (2 * i + 1)
        else s.lane n i) ∧
      SameAcc s t ∧ SameFlags s t ∧ SameDivide s t ∧ SameScalar s t ∧ SameDmem s t ∧ SameImem s t ∧
      SameControl s t ∧ t.draws = s.draws ∧ Retires s t)

/-- MFC0 and LWV (R222, R380): the register takes the next draw of the run, which nothing constrains (the constants
`Config.cop0Read` and `Config.lwvResult` are opaque; the counter that indexes them is the model's own, assumption
log 5). -/
def Obligations.DrawsAreFree : Prop :=
  ∀ (s : State) (rt rd vt base : Reg) (e : Elem) (offset ignored : BitVec 7),
    Means (formatMWith 0x10 0x00 rt rd e ignored) (.mfc0 rt rd) s (fun t =>
      (t.x rt = if rt = 0 then 0 else Config.cop0Read s.draws) ∧ (∀ r, r ≠ rt → t.x r = s.x r) ∧
      t.draws = s.draws + 1 ∧ SameVectorUnit s t ∧ SameDmem s t ∧ SameImem s t ∧ SameControl s t ∧
      Retires s t) ∧
    Means (formatVM 0x32 base vt 0x0A e offset) (.lwv vt e offset base) s (fun t =>
      (∀ j : Fin 8, t.lane vt j = (Config.lwvResult s.draws).extractLsb' (112 - 16 * j) 16) ∧
      (∀ r, r ≠ vt → t.vreg r = s.vreg r) ∧ t.draws = s.draws + 1 ∧
      SameAcc s t ∧ SameFlags s t ∧ SameDivide s t ∧ SameScalar s t ∧ SameDmem s t ∧ SameImem s t ∧
      SameControl s t ∧ Retires s t)

/-- SBV, SSV, SLV, SDV, SQV, SRV (R382-R385): a run of register bytes, wrapping in the register, to
consecutive addresses; SQV up to the 16-byte boundary of memory, SRV the rest below it. -/
def Obligations.VectorRunStores : Prop :=
  ∀ (s : State) (vt base : Reg) (e : Elem) (offset : BitVec 7),
    let byte := fun (k : Nat) => s.vbyte vt (BitVec.ofNat 4 (e.toNat + k))
    let quad := s.vaddr base offset 16
    Means (formatVM 0x3A base vt 0x00 e offset) (.sbv vt e offset base) s (fun t =>
      Stores s t 1 (runAddr (s.vaddr base offset 1)) byte) ∧
    Means (formatVM 0x3A base vt 0x01 e offset) (.ssv vt e offset base) s (fun t =>
      Stores s t 2 (runAddr (s.vaddr base offset 2)) byte) ∧
    Means (formatVM 0x3A base vt 0x02 e offset) (.slv vt e offset base) s (fun t =>
      Stores s t 4 (runAddr (s.vaddr base offset 4)) byte) ∧
    Means (formatVM 0x3A base vt 0x03 e offset) (.sdv vt e offset base) s (fun t =>
      Stores s t 8 (runAddr (s.vaddr base offset 8)) byte) ∧
    Means (formatVM 0x3A base vt 0x04 e offset) (.sqv vt e offset base) s (fun t =>
      Stores s t (16 - quadOffset quad) (runAddr quad) byte) ∧
    Means (formatVM 0x3A base vt 0x05 e offset) (.srv vt e offset base) s (fun t =>
      Stores s t (quadOffset quad) (runAddr (quadBase quad))
        (fun k => byte (k + (16 - quad.toNat % 16))))

/-- SPV, SUV, SHV, SFV, SWV (R386-R390): one byte of each lane to consecutive addresses, to every second or every
fourth address of the window, or all sixteen bytes round the window; SFV stores zeros for an `e` its table
does not list. -/
def Obligations.VectorPackedStores : Prop :=
  ∀ (s : State) (vt base : Reg) (e : Elem) (offset : BitVec 7),
    let high := fun (o : Nat) => (s.lane vt (Fin.ofNat 8 o)).extractLsb' 8 8
    let mid7 := fun (o : Nat) => (s.lane vt (Fin.ofNat 8 o)).extractLsb' 7 8
    let byte := fun (k : Nat) => (s.vbyte vt (BitVec.ofNat 4 (e.toNat + k))).toNat
    let a8 := s.vaddr base offset 8
    let a16 := s.vaddr base offset 16
    let fourth : List Nat :=
      if e = 0 ∨ e = 15 then [0, 1, 2, 3] else if e = 1 then [6, 7, 4, 5]
      else if e = 4 then [1, 2, 3, 0] else if e = 5 then [7, 4, 5, 6]
      else if e = 8 then [4, 5, 6, 7] else if e = 11 then [3, 0, 1, 2]
      else if e = 12 then [5, 6, 7, 4] else []
    Means (formatVM 0x3A base vt 0x06 e offset) (.spv vt e offset base) s (fun t =>
      Stores s t 8 (runAddr a8) fun k =>
        if (e.toNat + k) % 16 < 8 then high (e.toNat + k) else mid7 (e.toNat + k)) ∧
    Means (formatVM 0x3A base vt 0x07 e offset) (.suv vt e offset base) s (fun t =>
      Stores s t 8 (runAddr a8) fun k =>
        if (e.toNat + k) % 16 < 8 then mid7 (e.toNat + k) else high (e.toNat + k)) ∧
    Means (formatVM 0x3A base vt 0x08 e offset) (.shv vt e offset base) s (fun t =>
      Stores s t 8 (fun k => windowAddr a16 (2 * k)) fun k =>
        BitVec.ofNat 8 (byte (2 * k) * 2 + byte (2 * k + 1) / 128)) ∧
    Means (formatVM 0x3A base vt 0x09 e offset) (.sfv vt e offset base) s (fun t =>
      Stores s t 4 (fun i => windowAddr a16 (4 * i)) fun i =>
        match fourth[i]? with | some lane => mid7 lane | none => 0) ∧
    Means (formatVM 0x3A base vt 0x0A e offset) (.swv vt e offset base) s (fun t =>
      Stores s t 16 (windowAddr a16) fun k => s.vbyte vt (BitVec.ofNat 4 (e.toNat + k)))

/-- STV (R391): the sixteen bytes of the window come two from each register of the group of eight. -/
def Obligations.TransposedStore : Prop :=
  ∀ (s : State) (vt base : Reg) (e : Elem) (offset : BitVec 7),
    Means (formatVM 0x3A base vt 0x0B e offset) (.stv vt e offset base) s (fun t =>
      Stores s t 16 (transposedStoreAddr (s.vaddr base offset 16) e) fun m =>
        s.vbyte (BitVec.ofNat 5 (vt.toNat / 8 * 8 + m / 2))
          (BitVec.ofNat 4 (16 - e.toNat / 2 * 2 + m)))

/-! ### Composite uses -/

/-- R374, R375, R384, R385: SQV at an address and SRV sixteen bytes on store all of a register at any alignment, and
LQV and LRV load it back; the sixteen bytes in memory are the register's. -/
def Obligations.UnalignedQuadRoundTrip : Prop :=
  ∀ (s t u v w : State) (vt vd base : Reg) (offset : BitVec 7), offset ≠ 0x3F →
    exec (.sqv vt 0 offset base) s = .next t → exec (.srv vt 0 (offset + 1) base) t = .next u →
    exec (.lqv vd 0 offset base) u = .next v → exec (.lrv vd 0 (offset + 1) base) v = .next w →
      (∀ k : Nat, k < 16 →
        u.dm (s.vaddr base offset 16 + BitVec.ofNat 32 k) = s.vbyte vt (BitVec.ofNat 4 k)) ∧
      w.vreg vd = s.vreg vt

/-- R258: VMUDL, VMADM, VMADN, VMADH over the halves of two 32-bit numbers leave in each accumulator lane their
exact 64-bit signed product shifted right 16, and the destination clamps its upper half. -/
def Obligations.Product32By32 : Prop :=
  ∀ (s t u v w : State) (ah al bh bl d1 d2 d3 d4 : Reg) (e : Elem),
    (∀ d ∈ [d1, d2, d3], d ≠ ah ∧ d ≠ al ∧ d ≠ bh ∧ d ≠ bl) →
    exec (.vmudl d1 al bl e) s = .next t → exec (.vmadm d2 ah bl e) t = .next u →
    exec (.vmadn d3 al bh e) u = .next v → exec (.vmadh d4 ah bh e) v = .next w →
      ∀ j : Fin 8,
        let a : Word := s.lane ah j ++ s.lane al j
        let b : Word := s.lane bh (sel e j) ++ s.lane bl (sel e j)
        (w.accLane j).toInt = a.toInt * b.toInt / 65536 ∧
        w.lane d4 j = sat16 (a.toInt * b.toInt / 65536 / 65536)

/-- R281, R284: VADDC on the low halves, then VADD on the high halves, is a 32-bit add: ACC_LO and the low
destination hold the sum mod 2^32. -/
def Obligations.Add32ByCarry : Prop :=
  ∀ (s t u : State) (ah al bh bl dh dl : Reg) (e : Elem),
    dl ≠ ah → dl ≠ bh → dl ≠ dh →
    exec (.vaddc dl al bl e) s = .next t → exec (.vadd dh ah bh e) t = .next u →
      ∀ j : Fin 8,
        (((u.accLane j).extractLsb' 0 16 ++ u.lane dl j : BitVec 32) =
          (s.lane ah j ++ s.lane al j : BitVec 32) +
            (s.lane bh (sel e j) ++ s.lane bl (sel e j) : BitVec 32)) ∧
        u.vco = 0

/-- R285, R311-R314: VSUBC on the low halves, then a compare on the high halves, compares 32-bit signed numbers
lane by lane. -/
def Obligations.Compare32ByBorrow : Prop :=
  ∀ (s t u : State) (ah al bh bl dh dl : Reg) (e : Elem),
    dl ≠ ah → dl ≠ bh → exec (.vsubc dl al bl e) s = .next t →
      ∀ j : Fin 8,
        let a : Int := (s.lane ah j ++ s.lane al j : BitVec 32).toInt
        let b : Int := (s.lane bh (sel e j) ++ s.lane bl (sel e j) : BitVec 32).toInt
        (exec (.vlt dh ah bh e) t = .next u → u.cmp j = decide (a < b)) ∧
        (exec (.veq dh ah bh e) t = .next u → u.cmp j = decide (a = b)) ∧
        (exec (.vne dh ah bh e) t = .next u → u.cmp j = decide (a ≠ b)) ∧
        (exec (.vge dh ah bh e) t = .next u → u.cmp j = decide (b ≤ a))

/-! ### The cycle, the step and the host (49_control_loop.md) -/

/-- A running step fetches four bytes big-endian at `pc & 0xFFC`, runs the instruction they decode to, and does nothing
but advance on an ILLEGAL word; a halted step changes nothing (R77, R120, R412, R413).  On a state that carries the
refusal mark a step is refused again (R446; assumption log 6). -/
def Obligations.StepRunsDecodedInstruction : Prop :=
  ∀ s : State,
    let p := cyclePc s
    let bytes := [s.im p, s.im (p + 1), s.im (p + 2), s.im (p + 3)]
    (∀ r, s.refused = some r → step s = .refused r) ∧
    (s.refused = none → s.halted = true → step s = .next s) ∧
    (s.refused = none → s.halted = false → ∀ (i : Instr) (rest : List Byte),
      decodeBytes bytes = .ok (i, rest) → step s = exec i s) ∧
    (s.refused = none → s.halted = false → ∀ r, decodeBytes bytes = .error r →
      ∃ t, step s = .next t ∧ NoEffect s t)

/-- An instruction placed where the next cycle fetches is the one the next step of an unmarked engine runs, and
placing it changes nothing else but `halted` (R472; `withFetchWord` stands for the host's load, assumption
log 7). -/
def Obligations.PlacedInstructionRunsNext : Prop :=
  ∀ (s : State) (i : Instr),
    let placed := s.withFetchWord 32 (encode i).toNat
    (s.refused = none → step placed = exec i placed) ∧
    placed = { s with imem := placed.imem, halted := false } ∧
    ∀ a : Word, a.toNat % 4096 / 4 ≠ (cyclePc s).toNat / 4 → placed.im a = s.im a

/-- Every step keeps the invariant: both regions in canonical form, register 0's storage zero (R31), `pc` a word
address of IMEM (R34), `pend` one the core can leave (R36). -/
def Obligations.EveryStepKeepsInvariant : Prop :=
  ∀ s t : State, s.inv = true → step s = .next t → t.inv = true

/-- The state at creation meets the invariant. -/
def Obligations.CreationMeetsInvariant : Prop := State.reset.inv = true

/-- The two reset events and `setHalted` (R54, R55, R411, R417).  At creation every register, flag, accumulator lane and
divide register is zero, no transfer is pending, the engine is halted, no cycle is counted, and each memory byte is
the draw INIT_MEM, here one constant (assumption logs 2 and 18).  `init` zeroes the same but keeps memory, `halted`
and the refusal mark. -/
def Obligations.ResetEvents : Prop :=
  (∀ (s : State) (f : Bool), s.setHalted f = { s with halted := f }) ∧
  (let zeroed := fun t : State =>
    (∀ r, t.x r = 0) ∧ t.pc = 0 ∧ t.pend = .none ∧ (∀ r j, t.lane r j = 0) ∧ (∀ j, t.accLane j = 0) ∧
    t.vco = 0 ∧ t.vcc = 0 ∧ t.vce = 0 ∧ t.divIn = 0 ∧ t.divOut = 0 ∧ t.divDp = false ∧ t.cycles = 0
   zeroed State.reset ∧ State.reset.halted = true ∧
   (∀ a : Word, State.reset.im a = Config.initImem (a.setWidth 12) ∧
     State.reset.dm a = Config.initDmem (a.setWidth 12)) ∧
   ∀ s : State, zeroed s.init ∧ s.init.halted = s.halted ∧ SameImem s s.init ∧ SameDmem s s.init ∧
     s.init.refused = s.refused ∧ s.init.cfg = s.cfg)

/-- No instruction changes `halted`, the parameters, the refusal mark or instruction memory, and each counts one
cycle (R52, R70, R411, R416); only a store changes data memory (R202, R371). -/
def Obligations.ControlAndMemoryOwnership : Prop :=
  ∀ (i : Instr) (s t : State), exec i s = .next t →
    t.halted = s.halted ∧ t.cfg = s.cfg ∧ t.refused = s.refused ∧ t.imem = s.imem ∧
    t.cycles = s.cycles + 1 ∧ (i.isStore = false → t.dmem = s.dmem)

/-- Only vector computational instructions change the accumulator (R43); only they and CTC2 change a flag
register (R45-R48); only the six divide instructions change the divide state (R49); and they, the vector loads
and the stores change no scalar register (R32, R228). -/
def Obligations.VectorStateOwnership : Prop :=
  ∀ (i : Instr) (s t : State), exec i s = .next t →
    (i.isVectorComputational = false → SameAcc s t) ∧
    (i.isVectorComputational = false → (∀ rt rd, i ≠ .ctc2 rt rd) → SameFlags s t) ∧
    (i.usesDivideUnit = false → SameDivide s t) ∧
    (i.isVectorComputational = true ∨ i.isStore = true ∨ opField (encode i) = 0x32 →
      SameScalar s t)

/-- `step(count)` (R412, R414, R416): no effect while halted; else exactly `count` cycles unless one is refused, each
counted once.  It is `count` runs of the `step(1)` of the core, completed or refused alike; the first `m` cycles and
the next `n` are one call of `m + n`, and a refusal among the first `m` ends that call there.  What a call on a
marked state answers is the model's choice (assumption log 6). -/
def Obligations.HostStepRunsCountCycles : Prop :=
  ∀ (s : State) (m n : Nat),
    (s.halted = true → (hostStep n s).1 = s ∧ (s.refused = none → (hostStep n s).2 = none)) ∧
    (s.halted = false → (hostStep n s).2 = none →
      (hostStep n s).1.cycles = s.cycles + n ∧ (hostStep n s).1.halted = false) ∧
    ((hostStep m s).2 = none → hostStep (m + n) s = hostStep n (hostStep m s).1) ∧
    ((hostStep m s).2 ≠ none → hostStep (m + n) s = hostStep m s) ∧
    ((hostStep n s).2 = none → Sys2Proof.core.run n s = .next (hostStep n s).1) ∧
    (s.refused = none → ∀ t : State, Sys2Proof.core.run n s = .next t → hostStep n s = (t, none)) ∧
    (s.refused = none → ∀ r : Refusal, Sys2Proof.core.run n s = .refused r →
      (hostStep n s).2 = some r ∧
      ∃ k < n, ∃ u : State, Sys2Proof.core.run k s = .next u ∧ step u = .refused r ∧
        (hostStep n s).1 = { u with refused := some r })

/-- The host's views of the two regions (R73, R78): a byte written is read back and no other byte changes; raw byte
`(a & ~3) | (3 - (a & 3))` is logical byte `a`, both ways. -/
def Obligations.HostMemoryViews : Prop :=
  (∀ (s : State) (r q : Region) (a b : Word) (v : Byte),
    (s.writeByte r a v).readByte q b =
      if q = r ∧ b.toNat % 4096 = a.toNat % 4096 then v else s.readByte q b) ∧
  (∀ a : RegionAddr, (remap a).toNat = a.toNat / 4 * 4 + (3 - a.toNat % 4)) ∧
  (∀ (s : State) (r : Region) (a : RegionAddr), s.rawRead r (remap a) = s.readByte r (a.setWidth 32)) ∧
  (∀ (s : State) (r : Region) (a : RegionAddr) (v : Byte),
    s.rawWrite r (remap a) v = s.writeByte r (a.setWidth 32) v)

/-- The host's views of the registers (R31, R34, R41, R53, R419, R420), for reading and for writing, with what each
write leaves unchanged.

Scalar region: register `n` and `pc` little-endian from byte `4 n`; a raw write changes that byte of the buffer and
no other, and a nonzero byte to slot 0 has no move (R419, D16); `setGPR` drops a write to register 0.  A write of
`pc` leaves `pend`: the next instruction runs as the slot of a pending transfer, and control then goes to its target
(R420, D18).  Vector region: logical byte `k` of register `n` at raw byte `16 n + 15 - k`; logical lane `j`
little-endian at offset `14 - 2 j` (R41). -/
def Obligations.HostRegisterViews : Prop :=
  (∀ (s : State) (n : Reg) (v : Word),
    (∀ q, (s.setGPR n v).getGPR q = if q = 0 then 0 else if q = n then v else s.getGPR q) ∧
    s.setGPR n v = { s with gpr := (s.setGPR n v).gpr }) ∧
  (∀ (s : State) (n : Reg) (k : Fin 4),
    s.rawScalar ⟨4 * n.toNat + k, by have := n.isLt; omega⟩ = (s.x n).extractLsb' (8 * k) 8) ∧
  (∀ (s : State) (k : Fin 4), s.rawScalar ⟨128 + k, by omega⟩ = s.pc.extractLsb' (8 * k) 8) ∧
  (∀ (s : State) (i : Fin 132) (b : Byte),
    (i.val < 4 → s.setRawScalar i b = if b = 0 then some s else none) ∧
    (4 ≤ i.val → ∃ t, s.setRawScalar i b = some t ∧
      (∀ l, t.rawScalar l = if l = i then b else s.rawScalar l) ∧
      t = { s with gpr := t.gpr, pc := t.pc })) ∧
  (∀ (s : State) (v : Word),
    s.setPc v = { s with pc := v } ∧ cyclePc (s.setPc v) = v &&& 0xFFC ∧
    ∀ (i : Instr) (t : State), i.isCti = false → exec i (s.setPc v) = .next t →
      t.pend = .none ∧
      t.pc = (match s.pend with
        | .slot (some target) => target.setWidth 32
        | _ => ((v &&& 0xFFC) + 4) &&& 0xFFC)) ∧
  (∀ (s : State) (n : Reg) (k : Elem),
    s.rawVector ⟨16 * n.toNat + 15 - k.toNat, by have := n.isLt; have := k.isLt; omega⟩ = s.vbyte n k) ∧
  (∀ (s : State) (n : Reg) (k : Elem) (v : Byte),
    let t := s.setRawVector ⟨16 * n.toNat + 15 - k.toNat, by have := n.isLt; have := k.isLt; omega⟩ v
    (∀ q l, t.vbyte q l = if q = n ∧ l = k then v else s.vbyte q l) ∧ t = { s with vr := t.vr }) ∧
  (∀ (s : State) (n : Reg) (j : Fin 8) (v : Half),
    let t := s.writeVectorLane n j v
    (∀ q k, t.readVectorLane q k = if q = n ∧ k = j then v else s.readVectorLane q k) ∧
    (∀ b : Fin 2, t.rawVector ⟨16 * n.toNat + (14 - 2 * j) + b, by have := n.isLt; omega⟩ =
      v.extractLsb' (8 * b) 8) ∧
    t = { s with vr := t.vr })

/-- A run by address (R421) from an unmarked state ends in `t` exactly when `t` is the first state of the run that would
fetch at `E` with no transfer pending, and it is reached within the bound; nothing is executed there.  It has not
ended exactly when the bound passes with no such state, and it is refused, with the marked state, exactly when a
cycle is refused before either.  That from a marked state it is refused at once is the model's choice (assumption
log 6: R446 says only that no claim about a marked run can be proved).  That the stop is tested before the bound is
counted, and that a host-written `pc` counts by where it fetches, are the model's too (assumption logs 14 and 17). -/
def Obligations.RunByAddressEndsAtFirstArrival : Prop :=
  ∀ (stop : RegionAddr) (bound : Nat) (s : State),
    (∀ r, s.refused = some r → endByAddress stop bound s = .refused s r) ∧
    (s.refused = none →
      (∀ t, endByAddress stop bound s = .ended t ↔ ∃ n ≤ bound, ReachesStop stop n s t) ∧
      (endByAddress stop bound s = .notEnded ↔
        (∃ t : State, Sys2Proof.core.run bound s = .next t) ∧ ∀ n ≤ bound, ∀ t, ¬ReachesStop stop n s t) ∧
      ∀ t r, endByAddress stop bound s = .refused t r ↔
        ∃ n < bound, ∃ u : State, Sys2Proof.core.run n s = .next u ∧ step u = .refused r ∧
          t = { u with refused := some r } ∧ ∀ m ≤ n, ∀ v, ¬ReachesStop stop m s v)
end

