-- ==== Sys2Proof/Laws/Bits.lean ====
section
/-! SUPPORT. Fields and bits of a concatenation of bit vectors, and bit vectors as numbers: the lemmas every proof about
encodings, lanes, bytes and flags cites. -/

namespace Sys2Proof

/-! ### Taking fields out of a concatenation -/

/-- A field that lies above the last part. -/
theorem extract_above {v w : Nat} (x : BitVec v) (y : BitVec w) (s n : Nat) :
    (x ++ y).extractLsb' (w + s) n = x.extractLsb' s n := by
  apply BitVec.eq_of_getLsbD_eq
  intro i hi
  simp [BitVec.getLsbD_append, show ¬(w + s + i < w) by omega, show w + s + i - w = s + i by omega]

/-- The field that is the last part. -/
theorem extract_low {v w : Nat} (x : BitVec v) (y : BitVec w) : (x ++ y).extractLsb' 0 w = y := by
  apply BitVec.eq_of_getLsbD_eq
  intro i hi
  simp [BitVec.getLsbD_append, hi]

/-- A field that lies inside the last part. -/
theorem extract_within {v w : Nat} (x : BitVec v) (y : BitVec w) (s n : Nat) (h : s + n ≤ w) :
    (x ++ y).extractLsb' s n = y.extractLsb' s n := by
  apply BitVec.eq_of_getLsbD_eq
  intro i hi
  simp [BitVec.getLsbD_append, hi, show s + i < w by omega]

/-- A bit above the last part. -/
theorem bit_above {v w : Nat} (x : BitVec v) (y : BitVec w) (s : Nat) :
    (x ++ y).getLsbD (w + s) = x.getLsbD s := by
  simp [BitVec.getLsbD_append, show ¬(w + s < w) by omega]

/-- A bit inside the last part. -/
theorem bit_within {v w : Nat} (x : BitVec v) (y : BitVec w) (s : Nat) (h : s < w) :
    (x ++ y).getLsbD s = y.getLsbD s := by
  rw [BitVec.getLsbD_append, if_pos h]

/-- Two neighbouring fields are one field. -/
theorem extract_join {w : Nat} (x : BitVec w) (s m n : Nat) :
    x.extractLsb' (s + n) m ++ x.extractLsb' s n = x.extractLsb' s (m + n) := by
  apply BitVec.eq_of_getLsbD_eq
  intro i hi
  rw [BitVec.getLsbD_append]
  split
  · rename_i h
    simp [h, hi]
  · rename_i h
    simp [hi, show i - n < m by omega, show s + n + (i - n) = s + i by omega]

/-- A field that is a whole. -/
theorem extract_all {w : Nat} (x : BitVec w) : x.extractLsb' 0 w = x := by
  apply BitVec.eq_of_getLsbD_eq
  intro i hi
  simp [hi]

/-- A field at bit 0 is a truncation. -/
theorem extract_zero {w : Nat} (x : BitVec w) (n : Nat) : x.extractLsb' 0 n = x.setWidth n := by
  apply BitVec.eq_of_getLsbD_eq
  intro i hi
  simp [hi]

end Sys2Proof
end

