-- ==== Sys2Proof/Laws/State.lean ====
section
/-! SUPPORT. What each update of the state leaves and sets: one lemma per field per update, and one per
observation (`x`, `vreg`, `lane`, `vbyte`, `accLane`, `dm`, `im`, `vte`) of a field an update leaves alone.  No later
proof unfolds a record update. -/

namespace Sys2Proof.Machine

variable (s : State)

/-! ### `setX` -/

@[simp] theorem setX_pc (r : Reg) (v : Word) : (s.setX r v).pc = s.pc := by unfold State.setX; split <;> rfl
@[simp] theorem setX_pend (r : Reg) (v : Word) :
    (s.setX r v).pend = s.pend := by unfold State.setX; split <;> rfl
@[simp] theorem setX_vr (r : Reg) (v : Word) : (s.setX r v).vr = s.vr := by unfold State.setX; split <;> rfl
@[simp] theorem setX_acc (r : Reg) (v : Word) :
    (s.setX r v).acc = s.acc := by unfold State.setX; split <;> rfl
@[simp] theorem setX_vco (r : Reg) (v : Word) :
    (s.setX r v).vco = s.vco := by unfold State.setX; split <;> rfl
@[simp] theorem setX_vcc (r : Reg) (v : Word) :
    (s.setX r v).vcc = s.vcc := by unfold State.setX; split <;> rfl
@[simp] theorem setX_vce (r : Reg) (v : Word) :
    (s.setX r v).vce = s.vce := by unfold State.setX; split <;> rfl
@[simp] theorem setX_divIn (r : Reg) (v : Word) :
    (s.setX r v).divIn = s.divIn := by unfold State.setX; split <;> rfl
@[simp] theorem setX_divOut (r : Reg) (v : Word) :
    (s.setX r v).divOut = s.divOut := by unfold State.setX; split <;> rfl
@[simp] theorem setX_divDp (r : Reg) (v : Word) :
    (s.setX r v).divDp = s.divDp := by unfold State.setX; split <;> rfl
@[simp] theorem setX_halted (r : Reg) (v : Word) :
    (s.setX r v).halted = s.halted := by unfold State.setX; split <;> rfl
@[simp] theorem setX_cycles (r : Reg) (v : Word) :
    (s.setX r v).cycles = s.cycles := by unfold State.setX; split <;> rfl
@[simp] theorem setX_imem (r : Reg) (v : Word) :
    (s.setX r v).imem = s.imem := by unfold State.setX; split <;> rfl
@[simp] theorem setX_dmem (r : Reg) (v : Word) :
    (s.setX r v).dmem = s.dmem := by unfold State.setX; split <;> rfl
@[simp] theorem setX_refused (r : Reg) (v : Word) :
    (s.setX r v).refused = s.refused := by unfold State.setX; split <;> rfl
@[simp] theorem setX_cfg (r : Reg) (v : Word) :
    (s.setX r v).cfg = s.cfg := by unfold State.setX; split <;> rfl
@[simp] theorem setX_draws (r : Reg) (v : Word) :
    (s.setX r v).draws = s.draws := by unfold State.setX; split <;> rfl

@[simp] theorem setX_vreg (r : Reg) (v : Word) (r' : Reg) :
    (s.setX r v).vreg r' = s.vreg r' := by simp only [State.vreg, setX_vr]
@[simp] theorem setX_lane (r : Reg) (v : Word) (r' : Reg) (j : Fin 8) :
    (s.setX r v).lane r' j = s.lane r' j := by simp only [State.lane, State.vreg, setX_vr]
@[simp] theorem setX_vbyte (r : Reg) (v : Word) (r' : Reg) (k : Elem) :
    (s.setX r v).vbyte r' k = s.vbyte r' k := by simp only [State.vbyte, State.vreg, setX_vr]
@[simp] theorem setX_accLane (r : Reg) (v : Word) (j : Fin 8) :
    (s.setX r v).accLane j = s.accLane j := by simp only [State.accLane, setX_acc]
@[simp] theorem setX_dm (r : Reg) (v : Word) (a : Word) :
    (s.setX r v).dm a = s.dm a := by simp only [State.dm, setX_dmem]
@[simp] theorem setX_im (r : Reg) (v : Word) (a : Word) :
    (s.setX r v).im a = s.im a := by simp only [State.im, setX_imem]
@[simp] theorem setX_vte (r : Reg) (v : Word) (vt : Reg) (e : Elem) (j : Fin 8) :
    (s.setX r v).vte vt e j = s.vte vt e j := by simp only [State.vte, State.lane, State.vreg, setX_vr]

/-! ### `setVreg` -/

@[simp] theorem setVreg_gpr (r : Reg) (v : VReg) : (s.setVreg r v).gpr = s.gpr := rfl
@[simp] theorem setVreg_pc (r : Reg) (v : VReg) : (s.setVreg r v).pc = s.pc := rfl
@[simp] theorem setVreg_pend (r : Reg) (v : VReg) : (s.setVreg r v).pend = s.pend := rfl
@[simp] theorem setVreg_acc (r : Reg) (v : VReg) : (s.setVreg r v).acc = s.acc := rfl
@[simp] theorem setVreg_vco (r : Reg) (v : VReg) : (s.setVreg r v).vco = s.vco := rfl
@[simp] theorem setVreg_vcc (r : Reg) (v : VReg) : (s.setVreg r v).vcc = s.vcc := rfl
@[simp] theorem setVreg_vce (r : Reg) (v : VReg) : (s.setVreg r v).vce = s.vce := rfl
@[simp] theorem setVreg_divIn (r : Reg) (v : VReg) : (s.setVreg r v).divIn = s.divIn := rfl
@[simp] theorem setVreg_divOut (r : Reg) (v : VReg) : (s.setVreg r v).divOut = s.divOut := rfl
@[simp] theorem setVreg_divDp (r : Reg) (v : VReg) : (s.setVreg r v).divDp = s.divDp := rfl
@[simp] theorem setVreg_halted (r : Reg) (v : VReg) : (s.setVreg r v).halted = s.halted := rfl
@[simp] theorem setVreg_cycles (r : Reg) (v : VReg) : (s.setVreg r v).cycles = s.cycles := rfl
@[simp] theorem setVreg_imem (r : Reg) (v : VReg) : (s.setVreg r v).imem = s.imem := rfl
@[simp] theorem setVreg_dmem (r : Reg) (v : VReg) : (s.setVreg r v).dmem = s.dmem := rfl
@[simp] theorem setVreg_refused (r : Reg) (v : VReg) : (s.setVreg r v).refused = s.refused := rfl
@[simp] theorem setVreg_cfg (r : Reg) (v : VReg) : (s.setVreg r v).cfg = s.cfg := rfl
@[simp] theorem setVreg_draws (r : Reg) (v : VReg) : (s.setVreg r v).draws = s.draws := rfl

@[simp] theorem setVreg_x (r : Reg) (v : VReg) (r' : Reg) : (s.setVreg r v).x r' = s.x r' := rfl
@[simp] theorem setVreg_accLane (r : Reg) (v : VReg) (j : Fin 8) :
    (s.setVreg r v).accLane j = s.accLane j := rfl
@[simp] theorem setVreg_dm (r : Reg) (v : VReg) (a : Word) : (s.setVreg r v).dm a = s.dm a := rfl
@[simp] theorem setVreg_im (r : Reg) (v : VReg) (a : Word) : (s.setVreg r v).im a = s.im a := rfl

/-! ### `setLane` -/

@[simp] theorem setLane_gpr (r : Reg) (j : Fin 8) (v : Half) : (s.setLane r j v).gpr = s.gpr := rfl
@[simp] theorem setLane_pc (r : Reg) (j : Fin 8) (v : Half) : (s.setLane r j v).pc = s.pc := rfl
@[simp] theorem setLane_pend (r : Reg) (j : Fin 8) (v : Half) : (s.setLane r j v).pend = s.pend := rfl
@[simp] theorem setLane_acc (r : Reg) (j : Fin 8) (v : Half) : (s.setLane r j v).acc = s.acc := rfl
@[simp] theorem setLane_vco (r : Reg) (j : Fin 8) (v : Half) : (s.setLane r j v).vco = s.vco := rfl
@[simp] theorem setLane_vcc (r : Reg) (j : Fin 8) (v : Half) : (s.setLane r j v).vcc = s.vcc := rfl
@[simp] theorem setLane_vce (r : Reg) (j : Fin 8) (v : Half) : (s.setLane r j v).vce = s.vce := rfl
@[simp] theorem setLane_divIn (r : Reg) (j : Fin 8) (v : Half) : (s.setLane r j v).divIn = s.divIn := rfl
@[simp] theorem setLane_divOut (r : Reg) (j : Fin 8) (v : Half) : (s.setLane r j v).divOut = s.divOut := rfl
@[simp] theorem setLane_divDp (r : Reg) (j : Fin 8) (v : Half) : (s.setLane r j v).divDp = s.divDp := rfl
@[simp] theorem setLane_halted (r : Reg) (j : Fin 8) (v : Half) : (s.setLane r j v).halted = s.halted := rfl
@[simp] theorem setLane_cycles (r : Reg) (j : Fin 8) (v : Half) : (s.setLane r j v).cycles = s.cycles := rfl
@[simp] theorem setLane_imem (r : Reg) (j : Fin 8) (v : Half) : (s.setLane r j v).imem = s.imem := rfl
@[simp] theorem setLane_dmem (r : Reg) (j : Fin 8) (v : Half) : (s.setLane r j v).dmem = s.dmem := rfl
@[simp] theorem setLane_refused (r : Reg) (j : Fin 8) (v : Half) :
    (s.setLane r j v).refused = s.refused := rfl
@[simp] theorem setLane_cfg (r : Reg) (j : Fin 8) (v : Half) : (s.setLane r j v).cfg = s.cfg := rfl
@[simp] theorem setLane_draws (r : Reg) (j : Fin 8) (v : Half) : (s.setLane r j v).draws = s.draws := rfl

@[simp] theorem setLane_x (r : Reg) (j : Fin 8) (v : Half) (r' : Reg) :
    (s.setLane r j v).x r' = s.x r' := rfl
@[simp] theorem setLane_accLane (r : Reg) (j : Fin 8) (v : Half) (j' : Fin 8) :
    (s.setLane r j v).accLane j' = s.accLane j' := rfl
@[simp] theorem setLane_dm (r : Reg) (j : Fin 8) (v : Half) (a : Word) :
    (s.setLane r j v).dm a = s.dm a := rfl
@[simp] theorem setLane_im (r : Reg) (j : Fin 8) (v : Half) (a : Word) :
    (s.setLane r j v).im a = s.im a := rfl

/-! ### `setVbytes` -/

@[simp] theorem setVbytes_gpr (r : Reg) (f : Elem → Option Byte) : (s.setVbytes r f).gpr = s.gpr := rfl
@[simp] theorem setVbytes_pc (r : Reg) (f : Elem → Option Byte) : (s.setVbytes r f).pc = s.pc := rfl
@[simp] theorem setVbytes_pend (r : Reg) (f : Elem → Option Byte) : (s.setVbytes r f).pend = s.pend := rfl
@[simp] theorem setVbytes_acc (r : Reg) (f : Elem → Option Byte) : (s.setVbytes r f).acc = s.acc := rfl
@[simp] theorem setVbytes_vco (r : Reg) (f : Elem → Option Byte) : (s.setVbytes r f).vco = s.vco := rfl
@[simp] theorem setVbytes_vcc (r : Reg) (f : Elem → Option Byte) : (s.setVbytes r f).vcc = s.vcc := rfl
@[simp] theorem setVbytes_vce (r : Reg) (f : Elem → Option Byte) : (s.setVbytes r f).vce = s.vce := rfl
@[simp] theorem setVbytes_divIn (r : Reg) (f : Elem → Option Byte) :
    (s.setVbytes r f).divIn = s.divIn := rfl
@[simp] theorem setVbytes_divOut (r : Reg) (f : Elem → Option Byte) :
    (s.setVbytes r f).divOut = s.divOut := rfl
@[simp] theorem setVbytes_divDp (r : Reg) (f : Elem → Option Byte) :
    (s.setVbytes r f).divDp = s.divDp := rfl
@[simp] theorem setVbytes_halted (r : Reg) (f : Elem → Option Byte) :
    (s.setVbytes r f).halted = s.halted := rfl
@[simp] theorem setVbytes_cycles (r : Reg) (f : Elem → Option Byte) :
    (s.setVbytes r f).cycles = s.cycles := rfl
@[simp] theorem setVbytes_imem (r : Reg) (f : Elem → Option Byte) : (s.setVbytes r f).imem = s.imem := rfl
@[simp] theorem setVbytes_dmem (r : Reg) (f : Elem → Option Byte) : (s.setVbytes r f).dmem = s.dmem := rfl
@[simp] theorem setVbytes_refused (r : Reg) (f : Elem → Option Byte) :
    (s.setVbytes r f).refused = s.refused := rfl
@[simp] theorem setVbytes_cfg (r : Reg) (f : Elem → Option Byte) : (s.setVbytes r f).cfg = s.cfg := rfl
@[simp] theorem setVbytes_draws (r : Reg) (f : Elem → Option Byte) :
    (s.setVbytes r f).draws = s.draws := rfl

@[simp] theorem setVbytes_x (r : Reg) (f : Elem → Option Byte) (r' : Reg) :
    (s.setVbytes r f).x r' = s.x r' := rfl
@[simp] theorem setVbytes_accLane (r : Reg) (f : Elem → Option Byte) (j : Fin 8) :
    (s.setVbytes r f).accLane j = s.accLane j := rfl
@[simp] theorem setVbytes_dm (r : Reg) (f : Elem → Option Byte) (a : Word) :
    (s.setVbytes r f).dm a = s.dm a := rfl
@[simp] theorem setVbytes_im (r : Reg) (f : Elem → Option Byte) (a : Word) :
    (s.setVbytes r f).im a = s.im a := rfl

/-! ### `putDm` -/

@[simp] theorem putDm_gpr (a : Word) (b : Byte) : (s.putDm a b).gpr = s.gpr := rfl
@[simp] theorem putDm_pc (a : Word) (b : Byte) : (s.putDm a b).pc = s.pc := rfl
@[simp] theorem putDm_pend (a : Word) (b : Byte) : (s.putDm a b).pend = s.pend := rfl
@[simp] theorem putDm_vr (a : Word) (b : Byte) : (s.putDm a b).vr = s.vr := rfl
@[simp] theorem putDm_acc (a : Word) (b : Byte) : (s.putDm a b).acc = s.acc := rfl
@[simp] theorem putDm_vco (a : Word) (b : Byte) : (s.putDm a b).vco = s.vco := rfl
@[simp] theorem putDm_vcc (a : Word) (b : Byte) : (s.putDm a b).vcc = s.vcc := rfl
@[simp] theorem putDm_vce (a : Word) (b : Byte) : (s.putDm a b).vce = s.vce := rfl
@[simp] theorem putDm_divIn (a : Word) (b : Byte) : (s.putDm a b).divIn = s.divIn := rfl
@[simp] theorem putDm_divOut (a : Word) (b : Byte) : (s.putDm a b).divOut = s.divOut := rfl
@[simp] theorem putDm_divDp (a : Word) (b : Byte) : (s.putDm a b).divDp = s.divDp := rfl
@[simp] theorem putDm_halted (a : Word) (b : Byte) : (s.putDm a b).halted = s.halted := rfl
@[simp] theorem putDm_cycles (a : Word) (b : Byte) : (s.putDm a b).cycles = s.cycles := rfl
@[simp] theorem putDm_imem (a : Word) (b : Byte) : (s.putDm a b).imem = s.imem := rfl
@[simp] theorem putDm_refused (a : Word) (b : Byte) : (s.putDm a b).refused = s.refused := rfl
@[simp] theorem putDm_cfg (a : Word) (b : Byte) : (s.putDm a b).cfg = s.cfg := rfl
@[simp] theorem putDm_draws (a : Word) (b : Byte) : (s.putDm a b).draws = s.draws := rfl

@[simp] theorem putDm_x (a : Word) (b : Byte) (r : Reg) : (s.putDm a b).x r = s.x r := rfl
@[simp] theorem putDm_vreg (a : Word) (b : Byte) (r : Reg) : (s.putDm a b).vreg r = s.vreg r := rfl
@[simp] theorem putDm_lane (a : Word) (b : Byte) (r : Reg) (j : Fin 8) :
    (s.putDm a b).lane r j = s.lane r j := rfl
@[simp] theorem putDm_vbyte (a : Word) (b : Byte) (r : Reg) (k : Elem) :
    (s.putDm a b).vbyte r k = s.vbyte r k := rfl
@[simp] theorem putDm_accLane (a : Word) (b : Byte) (j : Fin 8) :
    (s.putDm a b).accLane j = s.accLane j := rfl
@[simp] theorem putDm_im (a : Word) (b : Byte) (a' : Word) : (s.putDm a b).im a' = s.im a' := rfl
@[simp] theorem putDm_vte (a : Word) (b : Byte) (vt : Reg) (e : Elem) (j : Fin 8) :
    (s.putDm a b).vte vt e j = s.vte vt e j := rfl

/-! ### `putIm` -/

@[simp] theorem putIm_gpr (a : Word) (b : Byte) : (s.putIm a b).gpr = s.gpr := rfl
@[simp] theorem putIm_pc (a : Word) (b : Byte) : (s.putIm a b).pc = s.pc := rfl
@[simp] theorem putIm_pend (a : Word) (b : Byte) : (s.putIm a b).pend = s.pend := rfl
@[simp] theorem putIm_vr (a : Word) (b : Byte) : (s.putIm a b).vr = s.vr := rfl
@[simp] theorem putIm_acc (a : Word) (b : Byte) : (s.putIm a b).acc = s.acc := rfl
@[simp] theorem putIm_vco (a : Word) (b : Byte) : (s.putIm a b).vco = s.vco := rfl
@[simp] theorem putIm_vcc (a : Word) (b : Byte) : (s.putIm a b).vcc = s.vcc := rfl
@[simp] theorem putIm_vce (a : Word) (b : Byte) : (s.putIm a b).vce = s.vce := rfl
@[simp] theorem putIm_divIn (a : Word) (b : Byte) : (s.putIm a b).divIn = s.divIn := rfl
@[simp] theorem putIm_divOut (a : Word) (b : Byte) : (s.putIm a b).divOut = s.divOut := rfl
@[simp] theorem putIm_divDp (a : Word) (b : Byte) : (s.putIm a b).divDp = s.divDp := rfl
@[simp] theorem putIm_halted (a : Word) (b : Byte) : (s.putIm a b).halted = s.halted := rfl
@[simp] theorem putIm_cycles (a : Word) (b : Byte) : (s.putIm a b).cycles = s.cycles := rfl
@[simp] theorem putIm_dmem (a : Word) (b : Byte) : (s.putIm a b).dmem = s.dmem := rfl
@[simp] theorem putIm_refused (a : Word) (b : Byte) : (s.putIm a b).refused = s.refused := rfl
@[simp] theorem putIm_cfg (a : Word) (b : Byte) : (s.putIm a b).cfg = s.cfg := rfl
@[simp] theorem putIm_draws (a : Word) (b : Byte) : (s.putIm a b).draws = s.draws := rfl

@[simp] theorem putIm_x (a : Word) (b : Byte) (r : Reg) : (s.putIm a b).x r = s.x r := rfl
@[simp] theorem putIm_vreg (a : Word) (b : Byte) (r : Reg) : (s.putIm a b).vreg r = s.vreg r := rfl
@[simp] theorem putIm_lane (a : Word) (b : Byte) (r : Reg) (j : Fin 8) :
    (s.putIm a b).lane r j = s.lane r j := rfl
@[simp] theorem putIm_vbyte (a : Word) (b : Byte) (r : Reg) (k : Elem) :
    (s.putIm a b).vbyte r k = s.vbyte r k := rfl
@[simp] theorem putIm_accLane (a : Word) (b : Byte) (j : Fin 8) :
    (s.putIm a b).accLane j = s.accLane j := rfl
@[simp] theorem putIm_dm (a : Word) (b : Byte) (a' : Word) : (s.putIm a b).dm a' = s.dm a' := rfl
@[simp] theorem putIm_vte (a : Word) (b : Byte) (vt : Reg) (e : Elem) (j : Fin 8) :
    (s.putIm a b).vte vt e j = s.vte vt e j := rfl

/-! ### `store` -/

@[simp] theorem store_gpr (n : Nat) (addr : Nat → Word) (b : Nat → Byte) : (s.store n addr b).gpr = s.gpr := by
  induction n with
  | zero => rfl
  | succ k ih => simpa [State.store, State.putDm] using ih
@[simp] theorem store_pc (n : Nat) (addr : Nat → Word) (b : Nat → Byte) : (s.store n addr b).pc = s.pc := by
  induction n with
  | zero => rfl
  | succ k ih => simpa [State.store, State.putDm] using ih
@[simp] theorem store_pend (n : Nat) (addr : Nat → Word) (b : Nat → Byte) : (s.store n addr b).pend = s.pend := by
  induction n with
  | zero => rfl
  | succ k ih => simpa [State.store, State.putDm] using ih
@[simp] theorem store_vr (n : Nat) (addr : Nat → Word) (b : Nat → Byte) : (s.store n addr b).vr = s.vr := by
  induction n with
  | zero => rfl
  | succ k ih => simpa [State.store, State.putDm] using ih
@[simp] theorem store_acc (n : Nat) (addr : Nat → Word) (b : Nat → Byte) : (s.store n addr b).acc = s.acc := by
  induction n with
  | zero => rfl
  | succ k ih => simpa [State.store, State.putDm] using ih
@[simp] theorem store_vco (n : Nat) (addr : Nat → Word) (b : Nat → Byte) : (s.store n addr b).vco = s.vco := by
  induction n with
  | zero => rfl
  | succ k ih => simpa [State.store, State.putDm] using ih
@[simp] theorem store_vcc (n : Nat) (addr : Nat → Word) (b : Nat → Byte) : (s.store n addr b).vcc = s.vcc := by
  induction n with
  | zero => rfl
  | succ k ih => simpa [State.store, State.putDm] using ih
@[simp] theorem store_vce (n : Nat) (addr : Nat → Word) (b : Nat → Byte) : (s.store n addr b).vce = s.vce := by
  induction n with
  | zero => rfl
  | succ k ih => simpa [State.store, State.putDm] using ih
@[simp] theorem store_divIn (n : Nat) (addr : Nat → Word) (b : Nat → Byte) : (s.store n addr b).divIn = s.divIn := by
  induction n with
  | zero => rfl
  | succ k ih => simpa [State.store, State.putDm] using ih
@[simp] theorem store_divOut (n : Nat) (addr : Nat → Word) (b : Nat → Byte) : (s.store n addr b).divOut = s.divOut := by
  induction n with
  | zero => rfl
  | succ k ih => simpa [State.store, State.putDm] using ih
@[simp] theorem store_divDp (n : Nat) (addr : Nat → Word) (b : Nat → Byte) : (s.store n addr b).divDp = s.divDp := by
  induction n with
  | zero => rfl
  | succ k ih => simpa [State.store, State.putDm] using ih
@[simp] theorem store_halted (n : Nat) (addr : Nat → Word) (b : Nat → Byte) : (s.store n addr b).halted = s.halted := by
  induction n with
  | zero => rfl
  | succ k ih => simpa [State.store, State.putDm] using ih
@[simp] theorem store_cycles (n : Nat) (addr : Nat → Word) (b : Nat → Byte) : (s.store n addr b).cycles = s.cycles := by
  induction n with
  | zero => rfl
  | succ k ih => simpa [State.store, State.putDm] using ih
@[simp] theorem store_imem (n : Nat) (addr : Nat → Word) (b : Nat → Byte) : (s.store n addr b).imem = s.imem := by
  induction n with
  | zero => rfl
  | succ k ih => simpa [State.store, State.putDm] using ih
@[simp] theorem store_refused (n : Nat) (addr : Nat → Word) (b : Nat → Byte) : (s.store n addr b).refused = s.refused := by
  induction n with
  | zero => rfl
  | succ k ih => simpa [State.store, State.putDm] using ih
@[simp] theorem store_cfg (n : Nat) (addr : Nat → Word) (b : Nat → Byte) : (s.store n addr b).cfg = s.cfg := by
  induction n with
  | zero => rfl
  | succ k ih => simpa [State.store, State.putDm] using ih
@[simp] theorem store_draws (n : Nat) (addr : Nat → Word) (b : Nat → Byte) : (s.store n addr b).draws = s.draws := by
  induction n with
  | zero => rfl
  | succ k ih => simpa [State.store, State.putDm] using ih

@[simp] theorem store_x (n : Nat) (addr : Nat → Word) (b : Nat → Byte) (r : Reg) :
    (s.store n addr b).x r = s.x r := by simp only [State.x, store_gpr]
@[simp] theorem store_vreg (n : Nat) (addr : Nat → Word) (b : Nat → Byte) (r : Reg) :
    (s.store n addr b).vreg r = s.vreg r := by simp only [State.vreg, store_vr]
@[simp] theorem store_lane (n : Nat) (addr : Nat → Word) (b : Nat → Byte) (r : Reg) (j : Fin 8) :
    (s.store n addr b).lane r j = s.lane r j := by simp only [State.lane, State.vreg, store_vr]
@[simp] theorem store_vbyte (n : Nat) (addr : Nat → Word) (b : Nat → Byte) (r : Reg) (k : Elem) :
    (s.store n addr b).vbyte r k = s.vbyte r k := by simp only [State.vbyte, State.vreg, store_vr]
@[simp] theorem store_accLane (n : Nat) (addr : Nat → Word) (b : Nat → Byte) (j : Fin 8) :
    (s.store n addr b).accLane j = s.accLane j := by simp only [State.accLane, store_acc]
@[simp] theorem store_im (n : Nat) (addr : Nat → Word) (b : Nat → Byte) (a : Word) :
    (s.store n addr b).im a = s.im a := by simp only [State.im, store_imem]
@[simp] theorem store_vte (n : Nat) (addr : Nat → Word) (b : Nat → Byte) (vt : Reg) (e : Elem) (j : Fin 8) :
    (s.store n addr b).vte vt e j = s.vte vt e j := by simp only [State.vte, State.lane, State.vreg, store_vr]

/-! ### `memWrite` -/

@[simp] theorem memWrite_gpr (a : Word) (n : Nat) (v : BitVec (8 * n)) :
    (s.memWrite a n v).gpr = s.gpr := by simp [State.memWrite]
@[simp] theorem memWrite_pc (a : Word) (n : Nat) (v : BitVec (8 * n)) :
    (s.memWrite a n v).pc = s.pc := by simp [State.memWrite]
@[simp] theorem memWrite_pend (a : Word) (n : Nat) (v : BitVec (8 * n)) :
    (s.memWrite a n v).pend = s.pend := by simp [State.memWrite]
@[simp] theorem memWrite_vr (a : Word) (n : Nat) (v : BitVec (8 * n)) :
    (s.memWrite a n v).vr = s.vr := by simp [State.memWrite]
@[simp] theorem memWrite_acc (a : Word) (n : Nat) (v : BitVec (8 * n)) :
    (s.memWrite a n v).acc = s.acc := by simp [State.memWrite]
@[simp] theorem memWrite_vco (a : Word) (n : Nat) (v : BitVec (8 * n)) :
    (s.memWrite a n v).vco = s.vco := by simp [State.memWrite]
@[simp] theorem memWrite_vcc (a : Word) (n : Nat) (v : BitVec (8 * n)) :
    (s.memWrite a n v).vcc = s.vcc := by simp [State.memWrite]
@[simp] theorem memWrite_vce (a : Word) (n : Nat) (v : BitVec (8 * n)) :
    (s.memWrite a n v).vce = s.vce := by simp [State.memWrite]
@[simp] theorem memWrite_divIn (a : Word) (n : Nat) (v : BitVec (8 * n)) :
    (s.memWrite a n v).divIn = s.divIn := by simp [State.memWrite]
@[simp] theorem memWrite_divOut (a : Word) (n : Nat) (v : BitVec (8 * n)) :
    (s.memWrite a n v).divOut = s.divOut := by simp [State.memWrite]
@[simp] theorem memWrite_divDp (a : Word) (n : Nat) (v : BitVec (8 * n)) :
    (s.memWrite a n v).divDp = s.divDp := by simp [State.memWrite]
@[simp] theorem memWrite_halted (a : Word) (n : Nat) (v : BitVec (8 * n)) :
    (s.memWrite a n v).halted = s.halted := by simp [State.memWrite]
@[simp] theorem memWrite_cycles (a : Word) (n : Nat) (v : BitVec (8 * n)) :
    (s.memWrite a n v).cycles = s.cycles := by simp [State.memWrite]
@[simp] theorem memWrite_imem (a : Word) (n : Nat) (v : BitVec (8 * n)) :
    (s.memWrite a n v).imem = s.imem := by simp [State.memWrite]
@[simp] theorem memWrite_refused (a : Word) (n : Nat) (v : BitVec (8 * n)) :
    (s.memWrite a n v).refused = s.refused := by simp [State.memWrite]
@[simp] theorem memWrite_cfg (a : Word) (n : Nat) (v : BitVec (8 * n)) :
    (s.memWrite a n v).cfg = s.cfg := by simp [State.memWrite]
@[simp] theorem memWrite_draws (a : Word) (n : Nat) (v : BitVec (8 * n)) :
    (s.memWrite a n v).draws = s.draws := by simp [State.memWrite]

@[simp] theorem memWrite_x (a : Word) (n : Nat) (v : BitVec (8 * n)) (r : Reg) :
    (s.memWrite a n v).x r = s.x r := by simp only [State.x, memWrite_gpr]
@[simp] theorem memWrite_vreg (a : Word) (n : Nat) (v : BitVec (8 * n)) (r : Reg) :
    (s.memWrite a n v).vreg r = s.vreg r := by simp only [State.vreg, memWrite_vr]
@[simp] theorem memWrite_lane (a : Word) (n : Nat) (v : BitVec (8 * n)) (r : Reg) (j : Fin 8) :
    (s.memWrite a n v).lane r j = s.lane r j := by simp only [State.lane, State.vreg, memWrite_vr]
@[simp] theorem memWrite_vbyte (a : Word) (n : Nat) (v : BitVec (8 * n)) (r : Reg) (k : Elem) :
    (s.memWrite a n v).vbyte r k = s.vbyte r k := by simp only [State.vbyte, State.vreg, memWrite_vr]
@[simp] theorem memWrite_accLane (a : Word) (n : Nat) (v : BitVec (8 * n)) (j : Fin 8) :
    (s.memWrite a n v).accLane j = s.accLane j := by simp only [State.accLane, memWrite_acc]
@[simp] theorem memWrite_im (a : Word) (n : Nat) (v : BitVec (8 * n)) (a' : Word) :
    (s.memWrite a n v).im a' = s.im a' := by simp only [State.im, memWrite_imem]
@[simp] theorem memWrite_vte (a : Word) (n : Nat) (v : BitVec (8 * n)) (vt : Reg) (e : Elem) (j : Fin 8) :
    (s.memWrite a n v).vte vt e j = s.vte vt e j := by simp only [State.vte, State.lane, State.vreg, memWrite_vr]

/-! ### `retire` -/

@[simp] theorem retire_gpr : (s.retire).gpr = s.gpr := rfl
@[simp] theorem retire_pc : (s.retire).pc = s.nextPc.setWidth 32 := rfl
@[simp] theorem retire_pend : (s.retire).pend = .none := rfl
@[simp] theorem retire_vr : (s.retire).vr = s.vr := rfl
@[simp] theorem retire_acc : (s.retire).acc = s.acc := rfl
@[simp] theorem retire_vco : (s.retire).vco = s.vco := rfl
@[simp] theorem retire_vcc : (s.retire).vcc = s.vcc := rfl
@[simp] theorem retire_vce : (s.retire).vce = s.vce := rfl
@[simp] theorem retire_divIn : (s.retire).divIn = s.divIn := rfl
@[simp] theorem retire_divOut : (s.retire).divOut = s.divOut := rfl
@[simp] theorem retire_divDp : (s.retire).divDp = s.divDp := rfl
@[simp] theorem retire_halted : (s.retire).halted = s.halted := rfl
@[simp] theorem retire_cycles : (s.retire).cycles = s.cycles + 1 := rfl
@[simp] theorem retire_imem : (s.retire).imem = s.imem := rfl
@[simp] theorem retire_dmem : (s.retire).dmem = s.dmem := rfl
@[simp] theorem retire_refused : (s.retire).refused = s.refused := rfl
@[simp] theorem retire_cfg : (s.retire).cfg = s.cfg := rfl
@[simp] theorem retire_draws : (s.retire).draws = s.draws := rfl

@[simp] theorem retire_x (r : Reg) : (s.retire).x r = s.x r := rfl
@[simp] theorem retire_vreg (r : Reg) : (s.retire).vreg r = s.vreg r := rfl
@[simp] theorem retire_lane (r : Reg) (j : Fin 8) : (s.retire).lane r j = s.lane r j := rfl
@[simp] theorem retire_vbyte (r : Reg) (k : Elem) : (s.retire).vbyte r k = s.vbyte r k := rfl
@[simp] theorem retire_accLane (j : Fin 8) : (s.retire).accLane j = s.accLane j := rfl
@[simp] theorem retire_dm (a : Word) : (s.retire).dm a = s.dm a := rfl
@[simp] theorem retire_im (a : Word) : (s.retire).im a = s.im a := rfl
@[simp] theorem retire_vte (vt : Reg) (e : Elem) (j : Fin 8) : (s.retire).vte vt e j = s.vte vt e j := rfl

/-! ### `transfer` -/

@[simp] theorem transfer_gpr (taken : Bool) (target : RegionAddr) :
    (s.transfer taken target).gpr = s.gpr := by unfold State.transfer; split <;> rfl
@[simp] theorem transfer_vr (taken : Bool) (target : RegionAddr) :
    (s.transfer taken target).vr = s.vr := by unfold State.transfer; split <;> rfl
@[simp] theorem transfer_acc (taken : Bool) (target : RegionAddr) :
    (s.transfer taken target).acc = s.acc := by unfold State.transfer; split <;> rfl
@[simp] theorem transfer_vco (taken : Bool) (target : RegionAddr) :
    (s.transfer taken target).vco = s.vco := by unfold State.transfer; split <;> rfl
@[simp] theorem transfer_vcc (taken : Bool) (target : RegionAddr) :
    (s.transfer taken target).vcc = s.vcc := by unfold State.transfer; split <;> rfl
@[simp] theorem transfer_vce (taken : Bool) (target : RegionAddr) :
    (s.transfer taken target).vce = s.vce := by unfold State.transfer; split <;> rfl
@[simp] theorem transfer_divIn (taken : Bool) (target : RegionAddr) :
    (s.transfer taken target).divIn = s.divIn := by unfold State.transfer; split <;> rfl
@[simp] theorem transfer_divOut (taken : Bool) (target : RegionAddr) :
    (s.transfer taken target).divOut = s.divOut := by unfold State.transfer; split <;> rfl
@[simp] theorem transfer_divDp (taken : Bool) (target : RegionAddr) :
    (s.transfer taken target).divDp = s.divDp := by unfold State.transfer; split <;> rfl
@[simp] theorem transfer_halted (taken : Bool) (target : RegionAddr) :
    (s.transfer taken target).halted = s.halted := by unfold State.transfer; split <;> rfl
@[simp] theorem transfer_cycles (taken : Bool) (target : RegionAddr) :
    (s.transfer taken target).cycles = s.cycles + 1 := by unfold State.transfer; split <;> rfl
@[simp] theorem transfer_imem (taken : Bool) (target : RegionAddr) :
    (s.transfer taken target).imem = s.imem := by unfold State.transfer; split <;> rfl
@[simp] theorem transfer_dmem (taken : Bool) (target : RegionAddr) :
    (s.transfer taken target).dmem = s.dmem := by unfold State.transfer; split <;> rfl
@[simp] theorem transfer_refused (taken : Bool) (target : RegionAddr) :
    (s.transfer taken target).refused = s.refused := by unfold State.transfer; split <;> rfl
@[simp] theorem transfer_cfg (taken : Bool) (target : RegionAddr) :
    (s.transfer taken target).cfg = s.cfg := by unfold State.transfer; split <;> rfl
@[simp] theorem transfer_draws (taken : Bool) (target : RegionAddr) :
    (s.transfer taken target).draws = s.draws := by unfold State.transfer; split <;> rfl

@[simp] theorem transfer_x (taken : Bool) (target : RegionAddr) (r : Reg) :
    (s.transfer taken target).x r = s.x r := by simp only [State.x, transfer_gpr]
@[simp] theorem transfer_vreg (taken : Bool) (target : RegionAddr) (r : Reg) :
    (s.transfer taken target).vreg r = s.vreg r := by simp only [State.vreg, transfer_vr]
@[simp] theorem transfer_lane (taken : Bool) (target : RegionAddr) (r : Reg) (j : Fin 8) :
    (s.transfer taken target).lane r j = s.lane r j := by simp only [State.lane, State.vreg, transfer_vr]
@[simp] theorem transfer_vbyte (taken : Bool) (target : RegionAddr) (r : Reg) (k : Elem) :
    (s.transfer taken target).vbyte r k = s.vbyte r k := by simp only [State.vbyte, State.vreg, transfer_vr]
@[simp] theorem transfer_accLane (taken : Bool) (target : RegionAddr) (j : Fin 8) :
    (s.transfer taken target).accLane j = s.accLane j := by simp only [State.accLane, transfer_acc]
@[simp] theorem transfer_dm (taken : Bool) (target : RegionAddr) (a : Word) :
    (s.transfer taken target).dm a = s.dm a := by simp only [State.dm, transfer_dmem]
@[simp] theorem transfer_im (taken : Bool) (target : RegionAddr) (a : Word) :
    (s.transfer taken target).im a = s.im a := by simp only [State.im, transfer_imem]
@[simp] theorem transfer_vte (taken : Bool) (target : RegionAddr) (vt : Reg) (e : Elem) (j : Fin 8) :
    (s.transfer taken target).vte vt e j = s.vte vt e j := by simp only [State.vte, State.lane, State.vreg, transfer_vr]

/-! ### `countDraw` -/

@[simp] theorem countDraw_gpr : (s.countDraw).gpr = s.gpr := rfl
@[simp] theorem countDraw_pc : (s.countDraw).pc = s.pc := rfl
@[simp] theorem countDraw_pend : (s.countDraw).pend = s.pend := rfl
@[simp] theorem countDraw_vr : (s.countDraw).vr = s.vr := rfl
@[simp] theorem countDraw_acc : (s.countDraw).acc = s.acc := rfl
@[simp] theorem countDraw_vco : (s.countDraw).vco = s.vco := rfl
@[simp] theorem countDraw_vcc : (s.countDraw).vcc = s.vcc := rfl
@[simp] theorem countDraw_vce : (s.countDraw).vce = s.vce := rfl
@[simp] theorem countDraw_divIn : (s.countDraw).divIn = s.divIn := rfl
@[simp] theorem countDraw_divOut : (s.countDraw).divOut = s.divOut := rfl
@[simp] theorem countDraw_divDp : (s.countDraw).divDp = s.divDp := rfl
@[simp] theorem countDraw_halted : (s.countDraw).halted = s.halted := rfl
@[simp] theorem countDraw_cycles : (s.countDraw).cycles = s.cycles := rfl
@[simp] theorem countDraw_imem : (s.countDraw).imem = s.imem := rfl
@[simp] theorem countDraw_dmem : (s.countDraw).dmem = s.dmem := rfl
@[simp] theorem countDraw_refused : (s.countDraw).refused = s.refused := rfl
@[simp] theorem countDraw_cfg : (s.countDraw).cfg = s.cfg := rfl
@[simp] theorem countDraw_draws : (s.countDraw).draws = s.draws + 1 := rfl

@[simp] theorem countDraw_x (r : Reg) : (s.countDraw).x r = s.x r := rfl
@[simp] theorem countDraw_vreg (r : Reg) : (s.countDraw).vreg r = s.vreg r := rfl
@[simp] theorem countDraw_lane (r : Reg) (j : Fin 8) : (s.countDraw).lane r j = s.lane r j := rfl
@[simp] theorem countDraw_vbyte (r : Reg) (k : Elem) : (s.countDraw).vbyte r k = s.vbyte r k := rfl
@[simp] theorem countDraw_accLane (j : Fin 8) : (s.countDraw).accLane j = s.accLane j := rfl
@[simp] theorem countDraw_dm (a : Word) : (s.countDraw).dm a = s.dm a := rfl
@[simp] theorem countDraw_im (a : Word) : (s.countDraw).im a = s.im a := rfl
@[simp] theorem countDraw_vte (vt : Reg) (e : Elem) (j : Fin 8) :
    (s.countDraw).vte vt e j = s.vte vt e j := rfl

/-! ### `setAccAndVreg` -/

@[simp] theorem setAccAndVreg_gpr (vd : Reg) (acc : Fin 8 → AccLane) (res : Fin 8 → Half) :
    (s.setAccAndVreg vd acc res).gpr = s.gpr := rfl
@[simp] theorem setAccAndVreg_pc (vd : Reg) (acc : Fin 8 → AccLane) (res : Fin 8 → Half) :
    (s.setAccAndVreg vd acc res).pc = s.pc := rfl
@[simp] theorem setAccAndVreg_pend (vd : Reg) (acc : Fin 8 → AccLane) (res : Fin 8 → Half) :
    (s.setAccAndVreg vd acc res).pend = s.pend := rfl
@[simp] theorem setAccAndVreg_vco (vd : Reg) (acc : Fin 8 → AccLane) (res : Fin 8 → Half) :
    (s.setAccAndVreg vd acc res).vco = s.vco := rfl
@[simp] theorem setAccAndVreg_vcc (vd : Reg) (acc : Fin 8 → AccLane) (res : Fin 8 → Half) :
    (s.setAccAndVreg vd acc res).vcc = s.vcc := rfl
@[simp] theorem setAccAndVreg_vce (vd : Reg) (acc : Fin 8 → AccLane) (res : Fin 8 → Half) :
    (s.setAccAndVreg vd acc res).vce = s.vce := rfl
@[simp] theorem setAccAndVreg_divIn (vd : Reg) (acc : Fin 8 → AccLane) (res : Fin 8 → Half) :
    (s.setAccAndVreg vd acc res).divIn = s.divIn := rfl
@[simp] theorem setAccAndVreg_divOut (vd : Reg) (acc : Fin 8 → AccLane) (res : Fin 8 → Half) :
    (s.setAccAndVreg vd acc res).divOut = s.divOut := rfl
@[simp] theorem setAccAndVreg_divDp (vd : Reg) (acc : Fin 8 → AccLane) (res : Fin 8 → Half) :
    (s.setAccAndVreg vd acc res).divDp = s.divDp := rfl
@[simp] theorem setAccAndVreg_halted (vd : Reg) (acc : Fin 8 → AccLane) (res : Fin 8 → Half) :
    (s.setAccAndVreg vd acc res).halted = s.halted := rfl
@[simp] theorem setAccAndVreg_cycles (vd : Reg) (acc : Fin 8 → AccLane) (res : Fin 8 → Half) :
    (s.setAccAndVreg vd acc res).cycles = s.cycles := rfl
@[simp] theorem setAccAndVreg_imem (vd : Reg) (acc : Fin 8 → AccLane) (res : Fin 8 → Half) :
    (s.setAccAndVreg vd acc res).imem = s.imem := rfl
@[simp] theorem setAccAndVreg_dmem (vd : Reg) (acc : Fin 8 → AccLane) (res : Fin 8 → Half) :
    (s.setAccAndVreg vd acc res).dmem = s.dmem := rfl
@[simp] theorem setAccAndVreg_refused (vd : Reg) (acc : Fin 8 → AccLane) (res : Fin 8 → Half) :
    (s.setAccAndVreg vd acc res).refused = s.refused := rfl
@[simp] theorem setAccAndVreg_cfg (vd : Reg) (acc : Fin 8 → AccLane) (res : Fin 8 → Half) :
    (s.setAccAndVreg vd acc res).cfg = s.cfg := rfl
@[simp] theorem setAccAndVreg_draws (vd : Reg) (acc : Fin 8 → AccLane) (res : Fin 8 → Half) :
    (s.setAccAndVreg vd acc res).draws = s.draws := rfl

@[simp] theorem setAccAndVreg_x (vd : Reg) (acc : Fin 8 → AccLane) (res : Fin 8 → Half) (r : Reg) :
    (s.setAccAndVreg vd acc res).x r = s.x r := rfl
@[simp] theorem setAccAndVreg_dm (vd : Reg) (acc : Fin 8 → AccLane) (res : Fin 8 → Half) (a : Word) :
    (s.setAccAndVreg vd acc res).dm a = s.dm a := rfl
@[simp] theorem setAccAndVreg_im (vd : Reg) (acc : Fin 8 → AccLane) (res : Fin 8 → Half) (a : Word) :
    (s.setAccAndVreg vd acc res).im a = s.im a := rfl

/-! ### `setLoAndVreg` -/

@[simp] theorem setLoAndVreg_gpr (vd : Reg) (lo res : Fin 8 → Half) :
    (s.setLoAndVreg vd lo res).gpr = s.gpr := rfl
@[simp] theorem setLoAndVreg_pc (vd : Reg) (lo res : Fin 8 → Half) :
    (s.setLoAndVreg vd lo res).pc = s.pc := rfl
@[simp] theorem setLoAndVreg_pend (vd : Reg) (lo res : Fin 8 → Half) :
    (s.setLoAndVreg vd lo res).pend = s.pend := rfl
@[simp] theorem setLoAndVreg_vco (vd : Reg) (lo res : Fin 8 → Half) :
    (s.setLoAndVreg vd lo res).vco = s.vco := rfl
@[simp] theorem setLoAndVreg_vcc (vd : Reg) (lo res : Fin 8 → Half) :
    (s.setLoAndVreg vd lo res).vcc = s.vcc := rfl
@[simp] theorem setLoAndVreg_vce (vd : Reg) (lo res : Fin 8 → Half) :
    (s.setLoAndVreg vd lo res).vce = s.vce := rfl
@[simp] theorem setLoAndVreg_divIn (vd : Reg) (lo res : Fin 8 → Half) :
    (s.setLoAndVreg vd lo res).divIn = s.divIn := rfl
@[simp] theorem setLoAndVreg_divOut (vd : Reg) (lo res : Fin 8 → Half) :
    (s.setLoAndVreg vd lo res).divOut = s.divOut := rfl
@[simp] theorem setLoAndVreg_divDp (vd : Reg) (lo res : Fin 8 → Half) :
    (s.setLoAndVreg vd lo res).divDp = s.divDp := rfl
@[simp] theorem setLoAndVreg_halted (vd : Reg) (lo res : Fin 8 → Half) :
    (s.setLoAndVreg vd lo res).halted = s.halted := rfl
@[simp] theorem setLoAndVreg_cycles (vd : Reg) (lo res : Fin 8 → Half) :
    (s.setLoAndVreg vd lo res).cycles = s.cycles := rfl
@[simp] theorem setLoAndVreg_imem (vd : Reg) (lo res : Fin 8 → Half) :
    (s.setLoAndVreg vd lo res).imem = s.imem := rfl
@[simp] theorem setLoAndVreg_dmem (vd : Reg) (lo res : Fin 8 → Half) :
    (s.setLoAndVreg vd lo res).dmem = s.dmem := rfl
@[simp] theorem setLoAndVreg_refused (vd : Reg) (lo res : Fin 8 → Half) :
    (s.setLoAndVreg vd lo res).refused = s.refused := rfl
@[simp] theorem setLoAndVreg_cfg (vd : Reg) (lo res : Fin 8 → Half) :
    (s.setLoAndVreg vd lo res).cfg = s.cfg := rfl
@[simp] theorem setLoAndVreg_draws (vd : Reg) (lo res : Fin 8 → Half) :
    (s.setLoAndVreg vd lo res).draws = s.draws := rfl

@[simp] theorem setLoAndVreg_x (vd : Reg) (lo res : Fin 8 → Half) (r : Reg) :
    (s.setLoAndVreg vd lo res).x r = s.x r := rfl
@[simp] theorem setLoAndVreg_dm (vd : Reg) (lo res : Fin 8 → Half) (a : Word) :
    (s.setLoAndVreg vd lo res).dm a = s.dm a := rfl
@[simp] theorem setLoAndVreg_im (vd : Reg) (lo res : Fin 8 → Half) (a : Word) :
    (s.setLoAndVreg vd lo res).im a = s.im a := rfl

/-! ### `clearVco` -/

@[simp] theorem clearVco_gpr : (s.clearVco).gpr = s.gpr := rfl
@[simp] theorem clearVco_pc : (s.clearVco).pc = s.pc := rfl
@[simp] theorem clearVco_pend : (s.clearVco).pend = s.pend := rfl
@[simp] theorem clearVco_vr : (s.clearVco).vr = s.vr := rfl
@[simp] theorem clearVco_acc : (s.clearVco).acc = s.acc := rfl
@[simp] theorem clearVco_vco : (s.clearVco).vco = 0 := rfl
@[simp] theorem clearVco_vcc : (s.clearVco).vcc = s.vcc := rfl
@[simp] theorem clearVco_vce : (s.clearVco).vce = s.vce := rfl
@[simp] theorem clearVco_divIn : (s.clearVco).divIn = s.divIn := rfl
@[simp] theorem clearVco_divOut : (s.clearVco).divOut = s.divOut := rfl
@[simp] theorem clearVco_divDp : (s.clearVco).divDp = s.divDp := rfl
@[simp] theorem clearVco_halted : (s.clearVco).halted = s.halted := rfl
@[simp] theorem clearVco_cycles : (s.clearVco).cycles = s.cycles := rfl
@[simp] theorem clearVco_imem : (s.clearVco).imem = s.imem := rfl
@[simp] theorem clearVco_dmem : (s.clearVco).dmem = s.dmem := rfl
@[simp] theorem clearVco_refused : (s.clearVco).refused = s.refused := rfl
@[simp] theorem clearVco_cfg : (s.clearVco).cfg = s.cfg := rfl
@[simp] theorem clearVco_draws : (s.clearVco).draws = s.draws := rfl

@[simp] theorem clearVco_x (r : Reg) : (s.clearVco).x r = s.x r := rfl
@[simp] theorem clearVco_vreg (r : Reg) : (s.clearVco).vreg r = s.vreg r := rfl
@[simp] theorem clearVco_lane (r : Reg) (j : Fin 8) : (s.clearVco).lane r j = s.lane r j := rfl
@[simp] theorem clearVco_vbyte (r : Reg) (k : Elem) : (s.clearVco).vbyte r k = s.vbyte r k := rfl
@[simp] theorem clearVco_accLane (j : Fin 8) : (s.clearVco).accLane j = s.accLane j := rfl
@[simp] theorem clearVco_dm (a : Word) : (s.clearVco).dm a = s.dm a := rfl
@[simp] theorem clearVco_im (a : Word) : (s.clearVco).im a = s.im a := rfl
@[simp] theorem clearVco_vte (vt : Reg) (e : Elem) (j : Fin 8) :
    (s.clearVco).vte vt e j = s.vte vt e j := rfl

/-! ### `setSingleLane` -/

@[simp] theorem setSingleLane_gpr (vd : Reg) (de : BitVec 5) (vt : Reg) (e : Elem) (v : Half) :
    (s.setSingleLane vd de vt e v).gpr = s.gpr := rfl
@[simp] theorem setSingleLane_pc (vd : Reg) (de : BitVec 5) (vt : Reg) (e : Elem) (v : Half) :
    (s.setSingleLane vd de vt e v).pc = s.pc := rfl
@[simp] theorem setSingleLane_pend (vd : Reg) (de : BitVec 5) (vt : Reg) (e : Elem) (v : Half) :
    (s.setSingleLane vd de vt e v).pend = s.pend := rfl
@[simp] theorem setSingleLane_vco (vd : Reg) (de : BitVec 5) (vt : Reg) (e : Elem) (v : Half) :
    (s.setSingleLane vd de vt e v).vco = s.vco := rfl
@[simp] theorem setSingleLane_vcc (vd : Reg) (de : BitVec 5) (vt : Reg) (e : Elem) (v : Half) :
    (s.setSingleLane vd de vt e v).vcc = s.vcc := rfl
@[simp] theorem setSingleLane_vce (vd : Reg) (de : BitVec 5) (vt : Reg) (e : Elem) (v : Half) :
    (s.setSingleLane vd de vt e v).vce = s.vce := rfl
@[simp] theorem setSingleLane_divIn (vd : Reg) (de : BitVec 5) (vt : Reg) (e : Elem) (v : Half) :
    (s.setSingleLane vd de vt e v).divIn = s.divIn := rfl
@[simp] theorem setSingleLane_divOut (vd : Reg) (de : BitVec 5) (vt : Reg) (e : Elem) (v : Half) :
    (s.setSingleLane vd de vt e v).divOut = s.divOut := rfl
@[simp] theorem setSingleLane_divDp (vd : Reg) (de : BitVec 5) (vt : Reg) (e : Elem) (v : Half) :
    (s.setSingleLane vd de vt e v).divDp = s.divDp := rfl
@[simp] theorem setSingleLane_halted (vd : Reg) (de : BitVec 5) (vt : Reg) (e : Elem) (v : Half) :
    (s.setSingleLane vd de vt e v).halted = s.halted := rfl
@[simp] theorem setSingleLane_cycles (vd : Reg) (de : BitVec 5) (vt : Reg) (e : Elem) (v : Half) :
    (s.setSingleLane vd de vt e v).cycles = s.cycles := rfl
@[simp] theorem setSingleLane_imem (vd : Reg) (de : BitVec 5) (vt : Reg) (e : Elem) (v : Half) :
    (s.setSingleLane vd de vt e v).imem = s.imem := rfl
@[simp] theorem setSingleLane_dmem (vd : Reg) (de : BitVec 5) (vt : Reg) (e : Elem) (v : Half) :
    (s.setSingleLane vd de vt e v).dmem = s.dmem := rfl
@[simp] theorem setSingleLane_refused (vd : Reg) (de : BitVec 5) (vt : Reg) (e : Elem) (v : Half) :
    (s.setSingleLane vd de vt e v).refused = s.refused := rfl
@[simp] theorem setSingleLane_cfg (vd : Reg) (de : BitVec 5) (vt : Reg) (e : Elem) (v : Half) :
    (s.setSingleLane vd de vt e v).cfg = s.cfg := rfl
@[simp] theorem setSingleLane_draws (vd : Reg) (de : BitVec 5) (vt : Reg) (e : Elem) (v : Half) :
    (s.setSingleLane vd de vt e v).draws = s.draws := rfl

@[simp] theorem setSingleLane_x (vd : Reg) (de : BitVec 5) (vt : Reg) (e : Elem) (v : Half) (r : Reg) :
    (s.setSingleLane vd de vt e v).x r = s.x r := rfl
@[simp] theorem setSingleLane_dm (vd : Reg) (de : BitVec 5) (vt : Reg) (e : Elem) (v : Half) (a : Word) :
    (s.setSingleLane vd de vt e v).dm a = s.dm a := rfl
@[simp] theorem setSingleLane_im (vd : Reg) (de : BitVec 5) (vt : Reg) (e : Elem) (v : Half) (a : Word) :
    (s.setSingleLane vd de vt e v).im a = s.im a := rfl

/-! ### `reserved` -/

@[simp] theorem reserved_gpr (vd vs vt : Reg) (e : Elem) :
    (s.reserved vd vs vt e).gpr = s.gpr := by unfold State.reserved; split <;> rfl
@[simp] theorem reserved_pc (vd vs vt : Reg) (e : Elem) :
    (s.reserved vd vs vt e).pc = s.pc := by unfold State.reserved; split <;> rfl
@[simp] theorem reserved_pend (vd vs vt : Reg) (e : Elem) :
    (s.reserved vd vs vt e).pend = s.pend := by unfold State.reserved; split <;> rfl
@[simp] theorem reserved_vco (vd vs vt : Reg) (e : Elem) :
    (s.reserved vd vs vt e).vco = s.vco := by unfold State.reserved; split <;> rfl
@[simp] theorem reserved_vcc (vd vs vt : Reg) (e : Elem) :
    (s.reserved vd vs vt e).vcc = s.vcc := by unfold State.reserved; split <;> rfl
@[simp] theorem reserved_vce (vd vs vt : Reg) (e : Elem) :
    (s.reserved vd vs vt e).vce = s.vce := by unfold State.reserved; split <;> rfl
@[simp] theorem reserved_divIn (vd vs vt : Reg) (e : Elem) :
    (s.reserved vd vs vt e).divIn = s.divIn := by unfold State.reserved; split <;> rfl
@[simp] theorem reserved_divOut (vd vs vt : Reg) (e : Elem) :
    (s.reserved vd vs vt e).divOut = s.divOut := by unfold State.reserved; split <;> rfl
@[simp] theorem reserved_divDp (vd vs vt : Reg) (e : Elem) :
    (s.reserved vd vs vt e).divDp = s.divDp := by unfold State.reserved; split <;> rfl
@[simp] theorem reserved_halted (vd vs vt : Reg) (e : Elem) :
    (s.reserved vd vs vt e).halted = s.halted := by unfold State.reserved; split <;> rfl
@[simp] theorem reserved_cycles (vd vs vt : Reg) (e : Elem) :
    (s.reserved vd vs vt e).cycles = s.cycles := by unfold State.reserved; split <;> rfl
@[simp] theorem reserved_imem (vd vs vt : Reg) (e : Elem) :
    (s.reserved vd vs vt e).imem = s.imem := by unfold State.reserved; split <;> rfl
@[simp] theorem reserved_dmem (vd vs vt : Reg) (e : Elem) :
    (s.reserved vd vs vt e).dmem = s.dmem := by unfold State.reserved; split <;> rfl
@[simp] theorem reserved_refused (vd vs vt : Reg) (e : Elem) :
    (s.reserved vd vs vt e).refused = s.refused := by unfold State.reserved; split <;> rfl
@[simp] theorem reserved_cfg (vd vs vt : Reg) (e : Elem) :
    (s.reserved vd vs vt e).cfg = s.cfg := by unfold State.reserved; split <;> rfl
@[simp] theorem reserved_draws (vd vs vt : Reg) (e : Elem) :
    (s.reserved vd vs vt e).draws = s.draws := by unfold State.reserved; split <;> rfl

@[simp] theorem reserved_x (vd vs vt : Reg) (e : Elem) (r : Reg) :
    (s.reserved vd vs vt e).x r = s.x r := by simp only [State.x, reserved_gpr]
@[simp] theorem reserved_dm (vd vs vt : Reg) (e : Elem) (a : Word) :
    (s.reserved vd vs vt e).dm a = s.dm a := by simp only [State.dm, reserved_dmem]
@[simp] theorem reserved_im (vd vs vt : Reg) (e : Elem) (a : Word) :
    (s.reserved vd vs vt e).im a = s.im a := by simp only [State.im, reserved_imem]

/-! ### `setFlagReg` -/

@[simp] theorem setFlagReg_gpr (rd : Reg) (v : Word) :
    (s.setFlagReg rd v).gpr = s.gpr := by unfold State.setFlagReg; split <;> rfl
@[simp] theorem setFlagReg_pc (rd : Reg) (v : Word) :
    (s.setFlagReg rd v).pc = s.pc := by unfold State.setFlagReg; split <;> rfl
@[simp] theorem setFlagReg_pend (rd : Reg) (v : Word) :
    (s.setFlagReg rd v).pend = s.pend := by unfold State.setFlagReg; split <;> rfl
@[simp] theorem setFlagReg_vr (rd : Reg) (v : Word) :
    (s.setFlagReg rd v).vr = s.vr := by unfold State.setFlagReg; split <;> rfl
@[simp] theorem setFlagReg_acc (rd : Reg) (v : Word) :
    (s.setFlagReg rd v).acc = s.acc := by unfold State.setFlagReg; split <;> rfl
@[simp] theorem setFlagReg_divIn (rd : Reg) (v : Word) :
    (s.setFlagReg rd v).divIn = s.divIn := by unfold State.setFlagReg; split <;> rfl
@[simp] theorem setFlagReg_divOut (rd : Reg) (v : Word) :
    (s.setFlagReg rd v).divOut = s.divOut := by unfold State.setFlagReg; split <;> rfl
@[simp] theorem setFlagReg_divDp (rd : Reg) (v : Word) :
    (s.setFlagReg rd v).divDp = s.divDp := by unfold State.setFlagReg; split <;> rfl
@[simp] theorem setFlagReg_halted (rd : Reg) (v : Word) :
    (s.setFlagReg rd v).halted = s.halted := by unfold State.setFlagReg; split <;> rfl
@[simp] theorem setFlagReg_cycles (rd : Reg) (v : Word) :
    (s.setFlagReg rd v).cycles = s.cycles := by unfold State.setFlagReg; split <;> rfl
@[simp] theorem setFlagReg_imem (rd : Reg) (v : Word) :
    (s.setFlagReg rd v).imem = s.imem := by unfold State.setFlagReg; split <;> rfl
@[simp] theorem setFlagReg_dmem (rd : Reg) (v : Word) :
    (s.setFlagReg rd v).dmem = s.dmem := by unfold State.setFlagReg; split <;> rfl
@[simp] theorem setFlagReg_refused (rd : Reg) (v : Word) :
    (s.setFlagReg rd v).refused = s.refused := by unfold State.setFlagReg; split <;> rfl
@[simp] theorem setFlagReg_cfg (rd : Reg) (v : Word) :
    (s.setFlagReg rd v).cfg = s.cfg := by unfold State.setFlagReg; split <;> rfl
@[simp] theorem setFlagReg_draws (rd : Reg) (v : Word) :
    (s.setFlagReg rd v).draws = s.draws := by unfold State.setFlagReg; split <;> rfl

@[simp] theorem setFlagReg_x (rd : Reg) (v : Word) (r : Reg) :
    (s.setFlagReg rd v).x r = s.x r := by simp only [State.x, setFlagReg_gpr]
@[simp] theorem setFlagReg_vreg (rd : Reg) (v : Word) (r : Reg) :
    (s.setFlagReg rd v).vreg r = s.vreg r := by simp only [State.vreg, setFlagReg_vr]
@[simp] theorem setFlagReg_lane (rd : Reg) (v : Word) (r : Reg) (j : Fin 8) :
    (s.setFlagReg rd v).lane r j = s.lane r j := by simp only [State.lane, State.vreg, setFlagReg_vr]
@[simp] theorem setFlagReg_vbyte (rd : Reg) (v : Word) (r : Reg) (k : Elem) :
    (s.setFlagReg rd v).vbyte r k = s.vbyte r k := by simp only [State.vbyte, State.vreg, setFlagReg_vr]
@[simp] theorem setFlagReg_accLane (rd : Reg) (v : Word) (j : Fin 8) :
    (s.setFlagReg rd v).accLane j = s.accLane j := by simp only [State.accLane, setFlagReg_acc]
@[simp] theorem setFlagReg_dm (rd : Reg) (v : Word) (a : Word) :
    (s.setFlagReg rd v).dm a = s.dm a := by simp only [State.dm, setFlagReg_dmem]
@[simp] theorem setFlagReg_im (rd : Reg) (v : Word) (a : Word) :
    (s.setFlagReg rd v).im a = s.im a := by simp only [State.im, setFlagReg_imem]
@[simp] theorem setFlagReg_vte (rd : Reg) (v : Word) (vt : Reg) (e : Elem) (j : Fin 8) :
    (s.setFlagReg rd v).vte vt e j = s.vte vt e j := by simp only [State.vte, State.lane, State.vreg, setFlagReg_vr]

end Sys2Proof.Machine
end

