-- ==== Sys2Proof/Laws/Registers.lean ====
section
/-! SUPPORT. Reading a register after writing one: the scalar file with its hard-wired register 0 (R30, R31), the vector
file as registers, lanes and bytes (R10, R40), the accumulator (R42) and the flag bits (R45-R47). -/

namespace Sys2Proof.Machine

variable (s : State)

/-! ### Scalar registers -/

@[simp] theorem x_zero : s.x 0 = 0 := rfl

theorem x_of_ne_zero {r : Reg} (h : r ≠ 0) : s.x r = s.gpr[r.toNat]'r.isLt := if_neg h

theorem setX_of_ne_zero {r : Reg} (v : Word) (h : r ≠ 0) :
    s.setX r v = { s with gpr := s.gpr.set r.toNat v r.isLt } := if_neg h

theorem x_setX (r q : Reg) (v : Word) :
    (s.setX r v).x q = if q = 0 then 0 else if q = r then v else s.x q := by
  split
  · next hq => rw [hq, x_zero]
  · next hq =>
    by_cases hr : r = 0
    · rw [hr, if_neg hq]; rfl
    · rw [setX_of_ne_zero s v hr, x_of_ne_zero _ hq, x_of_ne_zero _ hq]
      by_cases h : q = r
      · subst h
        simp
      · have h' : r.toNat ≠ q.toNat := fun e => h (BitVec.eq_of_toNat_eq e.symm)
        simp [h, h']

theorem x_setX_self (r : Reg) (v : Word) : (s.setX r v).x r = if r = 0 then 0 else v := by
  rw [x_setX, if_pos (rfl : r = r)]

theorem x_setX_of_ne {r q : Reg} (v : Word) (h : q ≠ r) : (s.setX r v).x q = s.x q := by
  rw [x_setX, if_neg h]
  split
  · next h0 => rw [h0, x_zero]
  · rfl

/-- The storage of register 0 is never written (R31). -/
theorem gpr_zero_setX (r : Reg) (v : Word) : (s.setX r v).gpr[0] = s.gpr[0] := by
  by_cases hr : r = 0
  · subst hr; rfl
  · have h' : r.toNat ≠ 0 := fun e => hr (BitVec.eq_of_toNat_eq e)
    rw [setX_of_ne_zero s v hr]
    simp [h']

/-! ### Vector registers -/

theorem vreg_setVreg (r q : Reg) (v : VReg) :
    (s.setVreg r v).vreg q = if q = r then v else s.vreg q := by
  by_cases h : q = r
  · subst h
    simp [State.setVreg, State.vreg]
  · have h' : r.toNat ≠ q.toNat := fun e => h (BitVec.eq_of_toNat_eq e.symm)
    simp [State.setVreg, State.vreg, h, h']

@[simp] theorem vreg_setVreg_self (r : Reg) (v : VReg) : (s.setVreg r v).vreg r = v := by
  rw [vreg_setVreg, if_pos rfl]

theorem vreg_setVreg_of_ne {r q : Reg} (v : VReg) (h : q ≠ r) : (s.setVreg r v).vreg q = s.vreg q := by
  rw [vreg_setVreg, if_neg h]

theorem lane_setVreg_self (r : Reg) (v : VReg) (j : Fin 8) : (s.setVreg r v).lane r j = v[j] := by
  rw [State.lane, vreg_setVreg_self]

/-- Equal registers have equal lanes. -/
theorem lane_of_vreg {s t : State} {r q : Reg} (h : t.vreg r = s.vreg q) (j : Fin 8) :
    t.lane r j = s.lane q j := by
  rw [State.lane, State.lane, h]

/-- Equal registers have equal bytes. -/
theorem vbyte_of_vreg {s t : State} {r q : Reg} (h : t.vreg r = s.vreg q) (k : Elem) :
    t.vbyte r k = s.vbyte q k := by
  rw [State.vbyte, State.vbyte, h]

theorem lane_setLane (r q : Reg) (j k : Fin 8) (v : Half) :
    (s.setLane r j v).lane q k = if q = r ∧ k = j then v else s.lane q k := by
  by_cases hq : q = r
  · subst hq
    by_cases hk : k = j
    · subst hk
      simp [State.lane, State.setLane]
    · have h' : j.val ≠ k.val := fun e => hk (Fin.ext e.symm)
      simp [State.lane, State.setLane, hk, h']
  · simp [State.lane, State.setLane, vreg_setVreg, hq]

theorem vreg_setLane_of_ne {r q : Reg} (j : Fin 8) (v : Half) (h : q ≠ r) :
    (s.setLane r j v).vreg q = s.vreg q := vreg_setVreg_of_ne s _ h

/-! ### Bytes of a vector register -/

/-- The bytes of the register built from bytes (R10). -/
@[simp] theorem VReg.byte_ofBytes (f : Elem → Byte) (k : Elem) : VReg.byte (VReg.ofBytes f) k = f k := by
  have hk : k.toNat < 16 := k.isLt
  simp only [VReg.byte, VReg.ofBytes, Vector.getElem_ofFn]
  split
  · rw [show BitVec.ofNat 4 (2 * (k.toNat / 2)) = k from BitVec.eq_of_toNat_eq (by simp; omega)]
    exact (extract_above (f k) _ 0 8).trans (extract_all _)
  · rw [show BitVec.ofNat 4 (2 * (k.toNat / 2) + 1) = k from
      BitVec.eq_of_toNat_eq (by simp; omega)]
    exact extract_low _ (f k)

/-- A lane is its two bytes, the high half first (R10). -/
theorem lane_eq_vbytes (r : Reg) (j : Fin 8) :
    s.lane r j = s.vbyte r (BitVec.ofNat 4 (2 * j)) ++ s.vbyte r (BitVec.ofNat 4 (2 * j + 1)) := by
  have hj : j.val < 8 := j.isLt
  have h0 : (2 * j.val) % 16 / 2 = j.val := by omega
  have h1 : (2 * j.val + 1) % 16 / 2 = j.val := by omega
  have e0 : (2 * j.val) % 16 % 2 = 0 := by omega
  have e1 : (2 * j.val + 1) % 16 % 2 ≠ 0 := by omega
  simp only [State.vbyte, VReg.byte, BitVec.toNat_ofNat, State.lane]
  norm_num only at *
  simp only [h0, h1, e0, e1, if_true, if_false]
  apply BitVec.eq_of_getLsbD_eq
  intro i hi
  rw [BitVec.getLsbD_append]
  split
  · next h => simp [h]
  · next h => simp [show i - 8 < 8 by omega, show 8 + (i - 8) = i by omega]

theorem vbyte_setVbytes (r q : Reg) (f : Elem → Option Byte) (k : Elem) :
    (s.setVbytes r f).vbyte q k = if q = r then (f k).getD (s.vbyte r k) else s.vbyte q k := by
  by_cases h : q = r
  · subst h
    simp [State.setVbytes, State.vbyte]
  · simp [State.setVbytes, State.vbyte, vreg_setVreg, h]

/-- Two registers with the same bytes are equal. -/
theorem vreg_eq_of_vbyte {s t : State} {r q : Reg} (h : ∀ k, t.vbyte r k = s.vbyte q k) :
    t.vreg r = s.vreg q := by
  apply Vector.ext
  intro i hi
  have hl : t.lane r ⟨i, hi⟩ = s.lane q ⟨i, hi⟩ := by
    rw [lane_eq_vbytes, lane_eq_vbytes, h, h]
  exact hl

/-! ### The accumulator -/

/-- The low plane of a lane whose low plane was replaced (R42). -/
@[simp] theorem withLo_lo (a : AccLane) (lo : Half) : (withLo a lo).extractLsb' 0 16 = lo :=
  extract_low _ lo

/-- The upper planes of a lane whose low plane was replaced (R42). -/
@[simp] theorem withLo_hi (a : AccLane) (lo : Half) :
    (withLo a lo).extractLsb' 16 32 = a.extractLsb' 16 32 :=
  (extract_above _ lo 0 32).trans (extract_all _)

@[simp] theorem setAccAndVreg_accLane (vd : Reg) (acc : Fin 8 → AccLane) (res : Fin 8 → Half)
    (j : Fin 8) : (s.setAccAndVreg vd acc res).accLane j = acc j := by
  simp [State.setAccAndVreg, State.accLane]

@[simp] theorem setAccAndVreg_lane_self (vd : Reg) (acc : Fin 8 → AccLane) (res : Fin 8 → Half)
    (j : Fin 8) : (s.setAccAndVreg vd acc res).lane vd j = res j := by
  rw [State.lane, show (s.setAccAndVreg vd acc res).vreg vd = Vector.ofFn res from
    vreg_setVreg_self s vd _]
  simp

theorem setAccAndVreg_vreg_of_ne {vd q : Reg} (acc : Fin 8 → AccLane) (res : Fin 8 → Half)
    (h : q ≠ vd) : (s.setAccAndVreg vd acc res).vreg q = s.vreg q := vreg_setVreg_of_ne s _ h

@[simp] theorem setLoAndVreg_accLane (vd : Reg) (lo res : Fin 8 → Half) (j : Fin 8) :
    (s.setLoAndVreg vd lo res).accLane j = withLo (s.accLane j) (lo j) := by
  simp [State.setLoAndVreg, State.accLane]

@[simp] theorem setLoAndVreg_lane_self (vd : Reg) (lo res : Fin 8 → Half) (j : Fin 8) :
    (s.setLoAndVreg vd lo res).lane vd j = res j := by
  rw [State.lane, show (s.setLoAndVreg vd lo res).vreg vd = Vector.ofFn res from
    vreg_setVreg_self s vd _]
  simp

theorem setLoAndVreg_vreg_of_ne {vd q : Reg} (lo res : Fin 8 → Half) (h : q ≠ vd) :
    (s.setLoAndVreg vd lo res).vreg q = s.vreg q := vreg_setVreg_of_ne s _ h

@[simp] theorem setSingleLane_accLane (vd : Reg) (de : BitVec 5) (vt : Reg) (e : Elem) (v : Half)
    (j : Fin 8) :
    (s.setSingleLane vd de vt e v).accLane j = withLo (s.accLane j) (s.vte vt e j) := by
  simp [State.setSingleLane, State.accLane]

theorem setSingleLane_lane_self (vd : Reg) (de : BitVec 5) (vt : Reg) (e : Elem) (v : Half)
    (j : Fin 8) :
    (s.setSingleLane vd de vt e v).lane vd j = if j = destLane de then v else s.lane vd j := by
  rw [show (s.setSingleLane vd de vt e v).lane vd j = (s.setLane vd (destLane de) v).lane vd j from rfl,
    lane_setLane]
  simp

theorem setSingleLane_vreg_of_ne {vd q : Reg} (de : BitVec 5) (vt : Reg) (e : Elem) (v : Half)
    (h : q ≠ vd) : (s.setSingleLane vd de vt e v).vreg q = s.vreg q := vreg_setVreg_of_ne s _ h

/-! ### Flag bits -/

/-- Bit `j` of eight lanes' flags is lane `j` (D24). -/
@[simp] theorem laneBits_bit (f : Fin 8 → Bool) (j : Fin 8) : (laneBits f).getLsbD j = f j := by
  have bits : ∀ b0 b1 b2 b3 b4 b5 b6 b7 : Bool, ∀ j : Fin 8,
      (BitVec.ofBool b7 ++ BitVec.ofBool b6 ++ BitVec.ofBool b5 ++ BitVec.ofBool b4 ++ BitVec.ofBool b3 ++
        BitVec.ofBool b2 ++ BitVec.ofBool b1 ++ BitVec.ofBool b0).getLsbD j =
          [b0, b1, b2, b3, b4, b5, b6, b7][j] := by
    decide
  rw [laneBits, bits]
  fin_cases j <;> rfl

@[simp] theorem flagPair_low (high low : Fin 8 → Bool) (j : Fin 8) :
    (flagPair high low).getLsbD j = low j := by
  rw [flagPair, BitVec.getLsbD_append, if_pos (by omega), laneBits_bit]

@[simp] theorem flagPair_high (high low : Fin 8 → Bool) (j : Fin 8) :
    (flagPair high low).getLsbD (8 + j) = high j := by
  rw [flagPair, BitVec.getLsbD_append, if_neg (by omega), show 8 + j.val - 8 = j.val by omega,
    laneBits_bit]

end Sys2Proof.Machine
end

