-- ==== Sys2Proof/Laws/Memory.lean ====
section
/-! SUPPORT. The two regions (20_memory.md): a byte written is read back and no other byte changes, every operation keeps
the canonical form, and an access of several bytes is its bytes in big-endian order. -/

namespace Sys2Proof.Machine

/-! ### The list of a region -/

theorem Memory.byte?_put (m : Memory) (a b : Nat) (v : Byte) :
    Memory.byte? (Memory.put m a v) b = if b = a then some v else Memory.byte? m b := by
  induction m with
  | nil => rfl
  | cons c rest ih =>
    obtain ⟨k, w⟩ := c
    simp only [Memory.put]
    split
    · rfl
    · split
      · next h =>
        subst h
        simp only [Memory.byte?]
        split <;> rfl
      · next h1 h2 =>
        simp only [Memory.byte?, ih]
        split
        · next h =>
          subst h
          rw [if_neg (fun e => h2 e.symm)]
        · rfl

theorem Memory.risesFrom_put (m : Memory) (lo a : Nat) (v : Byte) (h : Memory.risesFrom lo m = true)
    (ha : lo ≤ a) : Memory.risesFrom lo (Memory.put m a v) = true := by
  induction m generalizing lo with
  | nil => simpa [Memory.put, Memory.risesFrom] using ha
  | cons c rest ih =>
    obtain ⟨k, w⟩ := c
    simp only [Memory.risesFrom, Bool.and_eq_true, decide_eq_true_eq] at h
    simp only [Memory.put]
    split
    · next hk =>
      simp only [Memory.risesFrom, Bool.and_eq_true, decide_eq_true_eq]
      exact ⟨ha, hk, h.2⟩
    · split
      · next hk =>
        subst hk
        simp only [Memory.risesFrom, Bool.and_eq_true, decide_eq_true_eq]
        exact ⟨ha, h.2⟩
      · next h1 h2 =>
        simp only [Memory.risesFrom, Bool.and_eq_true, decide_eq_true_eq]
        exact ⟨h.1, ih (k + 1) h.2 (by omega)⟩

theorem Memory.all_put (m : Memory) (a : Nat) (v : Byte)
    (h : (m.all fun c => decide (c.1 < 4096)) = true) (ha : a < 4096) :
    ((Memory.put m a v).all fun c => decide (c.1 < 4096)) = true := by
  induction m with
  | nil => simpa [Memory.put] using ha
  | cons c rest ih =>
    obtain ⟨k, w⟩ := c
    simp only [List.all_cons, Bool.and_eq_true, decide_eq_true_eq] at h
    simp only [Memory.put]
    split
    · simp only [List.all_cons, Bool.and_eq_true, decide_eq_true_eq]
      exact ⟨ha, h⟩
    · split
      · simp only [List.all_cons, Bool.and_eq_true, decide_eq_true_eq]
        exact ⟨ha, h.2⟩
      · simp only [List.all_cons, Bool.and_eq_true, decide_eq_true_eq]
        exact ⟨h.1, ih h.2⟩

/-- Writing a byte of the region keeps its canonical form. -/
theorem Memory.wf_put (m : Memory) (a : Nat) (v : Byte) (h : Memory.wf m = true) (ha : a < 4096) :
    Memory.wf (Memory.put m a v) = true := by
  simp only [Memory.wf, Bool.and_eq_true] at h ⊢
  exact ⟨Memory.risesFrom_put m 0 a v h.1 (Nat.zero_le a), Memory.all_put m a v h.2 ha⟩

/-- An empty region is in canonical form: the memory at creation. -/
theorem Memory.wf_nil : Memory.wf [] = true := rfl

/-! ### One byte -/

variable (s : State)

/-- The number an address counts as (R71). -/
@[simp] theorem regionAddr_toNat (a : Word) : (a.setWidth 12).toNat = a.toNat % 4096 := by
  simp [BitVec.toNat_setWidth]

/-- An address counts mod 4096 (R71). -/
theorem regionAddr_eq {a b : Word} (h : a.toNat % 4096 = b.toNat % 4096) : a.setWidth 12 = b.setWidth 12 :=
  BitVec.eq_of_toNat_eq (by rw [regionAddr_toNat, regionAddr_toNat, h])

theorem dm_congr {a b : Word} (h : a.toNat % 4096 = b.toNat % 4096) : s.dm a = s.dm b := by
  rw [State.dm, State.dm, regionAddr_eq h]

theorem im_congr {a b : Word} (h : a.toNat % 4096 = b.toNat % 4096) : s.im a = s.im b := by
  rw [State.im, State.im, regionAddr_eq h]

theorem dm_putDm (a c : Word) (b : Byte) :
    (s.putDm a b).dm c = if c.toNat % 4096 = a.toNat % 4096 then b else s.dm c := by
  simp only [State.dm, State.putDm, Memory.byte?_put, regionAddr_toNat]
  split <;> rfl

theorem im_putIm (a c : Word) (b : Byte) :
    (s.putIm a b).im c = if c.toNat % 4096 = a.toNat % 4096 then b else s.im c := by
  simp only [State.im, State.putIm, Memory.byte?_put, regionAddr_toNat]
  split <;> rfl

theorem wf_putDm (a : Word) (b : Byte) (h : Memory.wf s.dmem = true) :
    Memory.wf (s.putDm a b).dmem = true :=
  Memory.wf_put _ _ _ h (a.setWidth 12).isLt

theorem wf_putIm (a : Word) (b : Byte) (h : Memory.wf s.imem = true) :
    Memory.wf (s.putIm a b).imem = true :=
  Memory.wf_put _ _ _ h (a.setWidth 12).isLt

/-! ### A run of bytes -/

theorem wf_store (n : Nat) (addr : Nat → Word) (b : Nat → Byte) (h : Memory.wf s.dmem = true) :
    Memory.wf (s.store n addr b).dmem = true := by
  induction n with
  | zero => exact h
  | succ k ih => exact wf_putDm _ _ _ ih

/-- Outside the stored addresses every byte reads as before. -/
theorem dm_store_of_ne (n : Nat) (addr : Nat → Word) (b : Nat → Byte) (a : Word)
    (h : ∀ k < n, (addr k).toNat % 4096 ≠ a.toNat % 4096) : (s.store n addr b).dm a = s.dm a := by
  induction n with
  | zero => rfl
  | succ k ih =>
    rw [State.store, dm_putDm, if_neg (fun e => h k (by omega) e.symm)]
    exact ih fun i hi => h i (by omega)

/-- A stored byte is read back when the store's addresses differ. -/
theorem dm_store (n : Nat) (addr : Nat → Word) (b : Nat → Byte)
    (hd : ∀ i < n, ∀ j < n, (addr i).toNat % 4096 = (addr j).toNat % 4096 → i = j) (k : Nat) (hk : k < n) :
    (s.store n addr b).dm (addr k) = b k := by
  induction n with
  | zero => omega
  | succ m ih =>
    rw [State.store, dm_putDm]
    split
    · next h => rw [hd k hk m (by omega) h]
    · next h =>
      have hkm : k ≠ m := fun e => h (by rw [e])
      exact ih (fun i hi j hj => hd i (by omega) j (by omega)) (by omega)

/-! ### Addresses of a store are distinct -/

theorem word_add_toNat (a : Word) (k : Nat) : (a + BitVec.ofNat 32 k).toNat % 4096 = (a.toNat + k) % 4096 := by
  rw [BitVec.toNat_add, BitVec.toNat_ofNat]
  omega

/-- The addresses of a run of at most 4096 bytes differ mod 4096. -/
theorem runAddr_distinct (a : Word) (n : Nat) (hn : n ≤ 4096) :
    ∀ i < n, ∀ j < n, (runAddr a i).toNat % 4096 = (runAddr a j).toNat % 4096 → i = j := by
  intro i hi j hj h
  simp only [runAddr, word_add_toNat] at h
  omega

/-- A window byte's address, in numbers (R376, R388, R391). -/
theorem windowByte_toNat (addr : Word) (i : Elem) :
    (windowByte (windowBase addr) i).toNat = addr.toNat / 8 * 8 + i.toNat ∨
      (windowByte (windowBase addr) i).toNat + 2 ^ 32 = addr.toNat / 8 * 8 + i.toNat := by
  have hb : (windowBase addr).toNat = addr.toNat / 8 * 8 := by
    have h : windowBase addr = (addr >>> 3) <<< 3 := by
      apply BitVec.eq_of_getLsbD_eq
      intro k hk
      have hm : ∀ k < 32, (~~~(7 : Word)).getLsbD k = decide (3 ≤ k) := by decide
      rw [windowBase, BitVec.getLsbD_and, hm k hk, BitVec.getLsbD_shiftLeft, BitVec.getLsbD_ushiftRight]
      by_cases h3 : 3 ≤ k
      · simp [h3, hk, show ¬k < 3 by omega, show 3 + (k - 3) = k by omega]
      · simp [h3, show k < 3 by omega]
    rw [h, BitVec.toNat_shiftLeft, BitVec.toNat_ushiftRight, Nat.shiftLeft_eq, Nat.shiftRight_eq_div_pow]
    have := addr.isLt
    omega
  have hi : i.toNat < 16 := i.isLt
  have := addr.isLt
  rw [windowByte, BitVec.toNat_add, hb, BitVec.toNat_setWidth]
  omega

/-- Two bytes of one window have the same address only if they are the same byte. -/
theorem windowByte_inj {addr : Word} {i j : Elem}
    (h : (windowByte (windowBase addr) i).toNat % 4096 = (windowByte (windowBase addr) j).toNat % 4096) :
    i = j := by
  have hi : i.toNat < 16 := i.isLt
  have hj : j.toNat < 16 := j.isLt
  apply BitVec.eq_of_toNat_eq
  rcases windowByte_toNat addr i with h1 | h1 <;> rcases windowByte_toNat addr j with h2 | h2 <;> omega

/-- The addresses a window store takes with a step that meets every byte at most once. -/
theorem windowAddr_distinct (addr : Word) (n step : Nat) (hs : 0 < step) (hn : step * n ≤ 16) :
    ∀ i < n, ∀ j < n,
      (windowAddr addr (step * i)).toNat % 4096 = (windowAddr addr (step * j)).toNat % 4096 → i = j := by
  intro i hi j hj h
  have he := congrArg BitVec.toNat (windowByte_inj h)
  have h1 : step * i + step ≤ step * n := by
    rw [← Nat.mul_succ]; exact Nat.mul_le_mul_left _ hi
  have h2 : step * j + step ≤ step * n := by
    rw [← Nat.mul_succ]; exact Nat.mul_le_mul_left _ hj
  simp only [BitVec.toNat_add, BitVec.toNat_ofNat] at he
  have hij : step * i = step * j := by omega
  exact Nat.eq_of_mul_eq_mul_left hs hij

theorem transposedStoreAddr_distinct (addr : Word) (e : Elem) :
    ∀ i < 16, ∀ j < 16,
      (transposedStoreAddr addr e i).toNat % 4096 = (transposedStoreAddr addr e j).toNat % 4096 → i = j := by
  intro i hi j hj h
  have he := congrArg BitVec.toNat (windowByte_inj h)
  simp only [BitVec.toNat_add, BitVec.toNat_ofNat] at he
  omega

/-! ### Accesses of several bytes (R74, R75) -/

theorem memRead_one (a : Word) : s.memRead a 1 = s.dm a := by
  rw [State.memRead, State.memRead, show a + BitVec.ofNat 32 0 = a from BitVec.add_zero a]
  exact BitVec.eq_of_getLsbD_eq fun i hi => bit_within 0#0 (s.dm a) i hi

theorem memRead_two (a : Word) : s.memRead a 2 = s.dm a ++ s.dm (a + 1) := by
  rw [State.memRead, memRead_one]
  rfl

theorem memRead_four (a : Word) :
    s.memRead a 4 = s.dm a ++ s.dm (a + 1) ++ s.dm (a + 2) ++ s.dm (a + 3) := by
  rw [State.memRead, State.memRead, memRead_two]
  rfl

end Sys2Proof.Machine
end

