-- ==== Sys2Proof/Laws/Cycle.lean ====
section
/-! SUPPORT. What each shared operation does, said once in the terms of Safety.lean: how a cycle ends, and the shapes of
effect the meanings are built from.  Provers cite these instead of unfolding an operation. -/

namespace Sys2Proof.Machine

variable {s u : State}

/-! ### Addresses of the cycle (R34, R413) -/

/-- `P` as a word of the instruction memory. -/
theorem fetchAddr_word (s : State) : s.fetchAddr.setWidth 32 = cyclePc s := by
  apply BitVec.eq_of_getLsbD_eq
  intro i hi
  have hm : ∀ i < 32, (0xFFC : Word).getLsbD i = (decide (i < 12) && (0xFFC : RegionAddr).getLsbD i) := by
    decide
  rw [State.fetchAddr, cyclePc, BitVec.getLsbD_and, hm i hi, BitVec.getLsbD_setWidth, BitVec.getLsbD_and,
    BitVec.getLsbD_setWidth]
  by_cases h : i < 12 <;> simp [hi, h]

/-- Adding to `P` inside IMEM, as 12 bits and as 32. -/
theorem fetchAddr_add (s : State) (k : RegionAddr) :
    ((s.fetchAddr + k) &&& 0xFFC).setWidth 32 = (cyclePc s + k.setWidth 32) &&& 0xFFC := by
  rw [← fetchAddr_word]
  apply BitVec.eq_of_getLsbD_eq
  intro i hi
  have hm : ∀ i < 32, (0xFFC : Word).getLsbD i = (decide (i < 12) && (0xFFC : RegionAddr).getLsbD i) := by
    decide
  have hs : s.fetchAddr + k = (s.fetchAddr.setWidth 32 + k.setWidth 32 : Word).setWidth 12 := by
    apply BitVec.eq_of_toNat_eq
    simp only [BitVec.toNat_add, BitVec.toNat_setWidth]
    have := s.fetchAddr.isLt
    have := k.isLt
    omega
  rw [hs, BitVec.getLsbD_setWidth, BitVec.getLsbD_and, BitVec.getLsbD_setWidth, BitVec.getLsbD_and, hm i hi]
  by_cases h : i < 12 <;> simp [hi, h]

/-- The next word (R35). -/
theorem nextWord_eq (s : State) : ((s.fetchAddr + 4) &&& 0xFFC).setWidth 32 = nextWord s :=
  fetchAddr_add s 4

/-- The link value (R182). -/
theorem link_word (s : State) : s.link.setWidth 32 = linkValue s := by
  rw [State.link, linkValue, fetchAddr_add]
  split <;> rfl

/-- A masked word is its masked low 12 bits. -/
theorem masked_word (v : Word) : ((v.setWidth 12 : RegionAddr) &&& 0xFFC).setWidth 32 = v &&& 0xFFC := by
  apply BitVec.eq_of_getLsbD_eq
  intro i hi
  have hm : ∀ i < 32, (0xFFC : Word).getLsbD i = (decide (i < 12) && (0xFFC : RegionAddr).getLsbD i) := by
    decide
  rw [BitVec.getLsbD_setWidth, BitVec.getLsbD_and, BitVec.getLsbD_setWidth, BitVec.getLsbD_and, hm i hi]
  by_cases h : i < 12 <;> simp [hi, h]

/-- A region address is its word cut to 12 bits. -/
@[simp] theorem regionAddr_round (a : RegionAddr) : (a.setWidth 32).setWidth 12 = a := by
  apply BitVec.eq_of_toNat_eq
  simp only [BitVec.toNat_setWidth]
  have := a.isLt
  omega

/-! ### How a cycle ends -/

/-- Retiring a state that has the cycle's `pc`, `pend` and `cycles` ends the cycle (R413). -/
theorem retires_retire (hpc : u.pc = s.pc) (hp : u.pend = s.pend) (hc : u.cycles = s.cycles) :
    Retires s u.retire := by
  have hf : u.fetchAddr = s.fetchAddr := by rw [State.fetchAddr, State.fetchAddr, hpc]
  refine ⟨fun target h => ?_, fun h => ?_, rfl, by rw [retire_cycles, hc]⟩
  · rw [retire_pc, State.nextPc, hp, h]
  · rw [retire_pc, State.nextPc, hp, hf]
    cases hs : s.pend with
    | none => exact nextWord_eq s
    | slot target =>
      cases target with
      | none => exact nextWord_eq s
      | some target => exact absurd hs (h target)

/-- The end of a control transfer's cycle (R180). -/
theorem transfers_transfer (hpc : u.pc = s.pc) (hp : u.pend = .none) (hc : u.cycles = s.cycles)
    (hcfg : u.cfg = s.cfg) (taken : Bool) (target : RegionAddr) :
    Transfers s (u.transfer taken target) taken (target.setWidth 32) := by
  have hf : u.fetchAddr = s.fetchAddr := by rw [State.fetchAddr, State.fetchAddr, hpc]
  refine ⟨fun h => ?_, fun h => ?_, by rw [transfer_cycles, hc]⟩
  · rw [State.transfer, hcfg, if_pos h, hf, regionAddr_round]
    exact ⟨nextWord_eq s, rfl⟩
  · rw [State.transfer, hcfg, if_neg (by rw [h]; exact Bool.false_ne_true), hf, nextWord_eq]
    exact ⟨rfl, hp⟩

/-! ### The scalar shapes -/

theorem retire_noEffect (s : State) : NoEffect s s.retire :=
  ⟨retire_x s, ⟨retire_vreg s, retire_accLane s, ⟨rfl, rfl, rfl⟩, rfl, rfl, rfl⟩, retire_dm s, retire_im s,
    ⟨rfl, rfl, rfl⟩, rfl, retires_retire rfl rfl rfl⟩

/-- The cycle of an instruction that writes one scalar register (R31, R140). -/
theorem writeX_spec (s : State) (r : Reg) (v : Word) :
    ∃ t, s.writeX r v = .next t ∧ WritesX s t r v := by
  refine ⟨_, rfl, ?_, fun q hq => ?_, ⟨?_, ?_, ?_, ?_⟩, ?_, ?_, ?_, ?_, ?_⟩
  · rw [retire_x, x_setX_self]
  · rw [retire_x, x_setX_of_ne s v hq]
  · intro q; simp
  · intro j; simp
  · exact ⟨by simp, by simp, by simp⟩
  · exact ⟨by simp, by simp, by simp⟩
  · intro a; simp
  · intro a; simp
  · exact ⟨by simp, by simp, by simp⟩
  · simp
  · exact retires_retire (by simp) (by simp) (by simp)

/-- A control transfer completes only outside a delay slot (R183). -/
theorem unlessInSlot_none (h : s.pend = .none) (t : State) : s.unlessInSlot t = .next t := by
  rw [State.unlessInSlot, h]

theorem unlessInSlot_slot (h : s.pend ≠ .none) (t : State) : s.unlessInSlot t = .refused .ctiInDelaySlot := by
  rw [State.unlessInSlot]
  cases hp : s.pend with
  | none => exact absurd hp h
  | slot target => rfl

theorem unlessInSlot_next {t t' : State} (h : s.unlessInSlot t = .next t') : s.pend = .none ∧ t' = t := by
  rw [State.unlessInSlot] at h
  cases hp : s.pend with
  | none => rw [hp] at h; injection h with h; exact ⟨rfl, h.symm⟩
  | slot target => rw [hp] at h; cases h

/-- The cycle of a control transfer that writes no register (R180). -/
theorem jump_spec (h : s.pend = .none) (taken : Bool) (target : RegionAddr) :
    ∃ t, s.jump taken target = .next t ∧ JumpsTo s t none taken (target.setWidth 32) := by
  refine ⟨_, unlessInSlot_none h _, fun q => ?_, ⟨fun q => ?_, fun j => ?_, ?_, ?_⟩, fun a => ?_,
    fun a => ?_, ?_, ?_, transfers_transfer rfl h rfl rfl taken target⟩
  · simp
  · simp
  · simp
  · exact ⟨by simp, by simp, by simp⟩
  · exact ⟨by simp, by simp, by simp⟩
  · simp
  · simp
  · exact ⟨by simp, by simp, by simp⟩
  · simp

/-- The cycle of a control transfer that links (R180, R182). -/
theorem jumpAndLink_spec (h : s.pend = .none) (rd : Reg) (taken : Bool) (target : RegionAddr) :
    ∃ t, s.jumpAndLink rd taken target = .next t ∧ JumpsTo s t (some rd) taken (target.setWidth 32) := by
  refine ⟨_, unlessInSlot_none h _, fun q => ?_, ⟨fun q => ?_, fun j => ?_, ?_, ?_⟩, fun a => ?_,
    fun a => ?_, ?_, ?_, transfers_transfer (by simp) (by simpa using h) (by simp) (by simp) taken target⟩
  · rw [transfer_x, x_setX, link_word]
    by_cases hq : q = 0
    · rw [if_pos hq, if_neg (fun h => h.2 hq), hq, x_zero]
    · rw [if_neg hq]
      by_cases hr : q = rd
      · rw [if_pos hr, if_pos ⟨congrArg some hr.symm, hq⟩]
      · rw [if_neg hr, if_neg (fun h => hr (Option.some.inj h.1).symm)]
  · simp
  · simp
  · exact ⟨by simp, by simp, by simp⟩
  · exact ⟨by simp, by simp, by simp⟩
  · simp
  · simp
  · exact ⟨by simp, by simp, by simp⟩
  · simp

/-! ### Stores -/

/-- The cycle of a store of `n` bytes to addresses that differ (R75, R371). -/
theorem store_spec (s : State) (n : Nat) (addr : Nat → Word) (b : Nat → Byte)
    (hd : ∀ i < n, ∀ j < n, (addr i).toNat % 4096 = (addr j).toNat % 4096 → i = j) :
    Stores s (s.store n addr b).retire n addr b := by
  refine ⟨fun k hk => ?_, fun a ha => ?_, fun q => ?_, ⟨fun q => ?_, fun j => ?_, ?_, ?_⟩, fun a => ?_, ?_, ?_,
    retires_retire (by simp) (by simp) (by simp)⟩
  · rw [retire_dm, dm_store s n addr b hd k hk]
  · rw [retire_dm, dm_store_of_ne s n addr b a ha]
  · simp
  · simp
  · simp
  · exact ⟨by simp, by simp, by simp⟩
  · exact ⟨by simp, by simp, by simp⟩
  · simp
  · exact ⟨by simp, by simp, by simp⟩
  · simp

/-! ### The vector shapes -/

/-- The cycle of an instruction that writes bytes of one vector register (R371, R227). -/
theorem setVbytes_spec (s : State) (vt : Reg) (f : Elem → Option Byte) :
    WritesVbytes s (s.setVbytes vt f).retire vt fun k => (f k).getD (s.vbyte vt k) := by
  refine ⟨fun k => ?_, fun r hr => ?_, fun j => ?_, ?_, ?_, fun q => ?_, fun a => ?_, fun a => ?_, ?_, ?_,
    retires_retire rfl rfl rfl⟩
  · rw [retire_vbyte, vbyte_setVbytes, if_pos rfl]
  · rw [retire_vreg]; exact vreg_setVreg_of_ne s _ hr
  · simp
  · exact ⟨by simp, by simp, by simp⟩
  · exact ⟨by simp, by simp, by simp⟩
  · simp
  · simp
  · simp
  · exact ⟨by simp, by simp, by simp⟩
  · simp

/-- The cycle of an instruction that writes the lanes of one vector register (R286, R376). -/
theorem setVreg_spec (s : State) (vt : Reg) (lanes : Fin 8 → Half) :
    WritesVlanes s (s.setVreg vt (Vector.ofFn lanes)).retire vt lanes := by
  refine ⟨fun j => ?_, fun r hr => ?_, fun j => ?_, ?_, ?_, fun q => ?_, fun a => ?_, fun a => ?_, ?_, ?_,
    retires_retire rfl rfl rfl⟩
  · rw [retire_lane, lane_setVreg_self]; simp
  · rw [retire_vreg]; exact vreg_setVreg_of_ne s _ hr
  · simp
  · exact ⟨by simp, by simp, by simp⟩
  · exact ⟨by simp, by simp, by simp⟩
  · simp
  · simp
  · simp
  · exact ⟨by simp, by simp, by simp⟩
  · simp

/-- The cycle of an instruction that writes the accumulator and a vector register lane by lane (R241). -/
theorem setAccAndVreg_spec (s : State) (vd : Reg) (acc : Fin 8 → AccLane) (res : Fin 8 → Half) :
    WritesLanes s (s.setAccAndVreg vd acc res).retire vd acc res ∧
      SameFlags s (s.setAccAndVreg vd acc res).retire ∧ SameDivide s (s.setAccAndVreg vd acc res).retire := by
  refine ⟨⟨fun j => ?_, fun j => ?_, fun r hr => ?_, fun q => ?_, fun a => ?_, fun a => ?_, ?_, ?_,
    retires_retire rfl rfl rfl⟩, ⟨by simp, by simp, by simp⟩, by simp, by simp, by simp⟩
  · simp
  · simp
  · rw [retire_vreg]; exact setAccAndVreg_vreg_of_ne s acc res hr
  · simp
  · simp
  · simp
  · exact ⟨by simp, by simp, by simp⟩
  · simp

/-- The cycle of an instruction that writes ACC_LO and a vector register lane by lane, whatever it does to the flags
and to the divide state (R280, R310). -/
theorem setLoAndVreg_spec (s : State) (vd : Reg) (lo res : Fin 8 → Half) (vco vcc : BitVec 16) (vce : BitVec 8)
    (divIn divOut : Half) (divDp : Bool) :
    WritesLoLanes s
      { s.setLoAndVreg vd lo res with
        vco := vco, vcc := vcc, vce := vce, divIn := divIn, divOut := divOut, divDp := divDp }.retire
      vd lo res := by
  refine ⟨fun j => ?_, fun j => ?_, fun r hr => ?_, fun q => ?_, fun a => ?_, fun a => ?_, ?_, ?_,
    retires_retire rfl rfl rfl⟩
  · rw [retire_accLane]
    have h : State.accLane { s.setLoAndVreg vd lo res with
        vco := vco, vcc := vcc, vce := vce, divIn := divIn, divOut := divOut, divDp := divDp } j =
      withLo (s.accLane j) (lo j) := setLoAndVreg_accLane s vd lo res j
    rw [h]
    exact ⟨withLo_lo _ _, withLo_hi _ _⟩
  · rw [retire_lane]
    exact setLoAndVreg_lane_self s vd lo res j
  · rw [retire_vreg]
    exact setLoAndVreg_vreg_of_ne s lo res hr
  · rfl
  · rfl
  · rfl
  · exact ⟨rfl, rfl, rfl⟩
  · rfl

/-- The common writes of the single-lane instructions, whatever they do to the divide state (R340). -/
theorem setSingleLane_spec (s : State) (vd : Reg) (de : BitVec 5) (vt : Reg) (e : Elem) (v : Half)
    (divIn divOut : Half) (divDp : Bool) :
    WritesOneLane s
      { s.setSingleLane vd de vt e v with divIn := divIn, divOut := divOut, divDp := divDp }.retire
      vd de vt e v := by
  refine ⟨fun j => ?_, fun r hr => ?_, fun j => ?_, ⟨rfl, rfl, rfl⟩, fun q => rfl, fun a => rfl, fun a => rfl,
    ⟨rfl, rfl, rfl⟩, rfl, retires_retire rfl rfl rfl⟩
  · rw [retire_lane]
    have h := setSingleLane_lane_self s vd de vt e v j
    have hd : (j = destLane de) ↔ (j.val = de.toNat % 8) := by
      rw [Fin.ext_iff]; rfl
    rw [← if_congr hd rfl rfl]
    exact h
  · rw [retire_vreg]
    exact setSingleLane_vreg_of_ne s de vt e v hr
  · rw [retire_accLane]
    have h : State.accLane { s.setSingleLane vd de vt e v with
        divIn := divIn, divOut := divOut, divDp := divDp } j = withLo (s.accLane j) (s.vte vt e j) :=
      setSingleLane_accLane s vd de vt e v j
    rw [h]
    exact ⟨withLo_lo _ _, withLo_hi _ _⟩

/-! ### Fetching -/

/-- The fetched word is the four bytes at `P`, big-endian (R77). -/
theorem fetch_bytes (s : State) :
    s.fetch = s.im (cyclePc s) ++ s.im (cyclePc s + 1) ++ s.im (cyclePc s + 2) ++ s.im (cyclePc s + 3) := by
  simp only [State.fetch, fetchAddr_word]

/-! ### The refusal mark (R446) -/

theorem unlessMarked_none (h : s.refused = none) (r : Result) : s.unlessMarked r = r := by
  rw [State.unlessMarked, h]

theorem unlessMarked_some {reason : Refusal} (h : s.refused = some reason) (r : Result) :
    s.unlessMarked r = .refused reason := by rw [State.unlessMarked, h]

/-- What a step of an unmarked or marked engine can answer with a next state. -/
theorem unlessMarked_next {r : Result} {t : State} (h : s.unlessMarked r = .next t) :
    s.refused = none ∧ r = .next t := by
  cases hs : s.refused with
  | none => exact ⟨rfl, unlessMarked_none hs r ▸ h⟩
  | some reason => rw [unlessMarked_some hs] at h; cases h

theorem markRefused_none (h : s.refused = none) (r : Refusal) :
    s.markRefused r = { s with refused := some r } := by rw [State.markRefused, h]

theorem markRefused_some {first : Refusal} (h : s.refused = some first) (r : Refusal) : s.markRefused r = s := by
  cases s
  subst h
  rfl

theorem step_halted (hm : s.refused = none) (h : s.halted = true) : step s = .next s := by
  rw [step, unlessMarked_none hm, if_pos h]

theorem step_running (hm : s.refused = none) (h : s.halted = false) : step s = cycle s := by
  rw [step, unlessMarked_none hm, if_neg (by rw [h]; exact Bool.false_ne_true)]

theorem step_marked {r : Refusal} (h : s.refused = some r) : step s = .refused r := unlessMarked_some h _

/-- Where a run by address ends (R421). -/
theorem atStop_iff {stop : RegionAddr} : s.atStop stop = true ↔ s.fetchAddr = stop ∧ s.pend = .none := by
  simp [State.atStop]

/-- A step that answers a next state starts unmarked (R446). -/
theorem step_next {t : State} (h : step s = .next t) :
    s.refused = none ∧ (if s.halted then .next s else cycle s) = .next t := unlessMarked_next h

theorem hostStep_marked {r : Refusal} (h : s.refused = some r) (n : Nat) : hostStep n s = (s, some r) := by
  rw [hostStep, h]

theorem hostStep_halted (hm : s.refused = none) (h : s.halted = true) (n : Nat) : hostStep n s = (s, none) := by
  simp only [hostStep, hm, h, if_true]

theorem hostStep_running (hm : s.refused = none) (h : s.halted = false) (n : Nat) :
    hostStep n s = runCycles n s := by
  simp only [hostStep, hm, h, Bool.false_eq_true, if_false]

end Sys2Proof.Machine
end

