-- ==== Sys2Proof/Laws/Encoding.lean ====
section
/-! SUPPORT. The fields of a word built by a format are the fields it was built from (R101-R106): what every proof about
encoding and decoding cites. -/

namespace Sys2Proof


/-! ### `formatR` -/

@[simp] theorem opField_formatR (op : BitVec 6) (rs rt rd sa : BitVec 5) (funct : BitVec 6) :
    opField (formatR op rs rt rd sa funct) = op :=
  (extract_above _ funct 20 6).trans <| (extract_above _ sa 15 6).trans <| (extract_above _ rd 10 6).trans <| (extract_above _ rt 5 6).trans <| (extract_above _ rs 0 6).trans <| extract_all op

@[simp] theorem rsField_formatR (op : BitVec 6) (rs rt rd sa : BitVec 5) (funct : BitVec 6) :
    rsField (formatR op rs rt rd sa funct) = rs :=
  (extract_above _ funct 15 5).trans <| (extract_above _ sa 10 5).trans <| (extract_above _ rd 5 5).trans <| (extract_above _ rt 0 5).trans <| extract_low _ rs

@[simp] theorem rtField_formatR (op : BitVec 6) (rs rt rd sa : BitVec 5) (funct : BitVec 6) :
    rtField (formatR op rs rt rd sa funct) = rt :=
  (extract_above _ funct 10 5).trans <| (extract_above _ sa 5 5).trans <| (extract_above _ rd 0 5).trans <| extract_low _ rt

@[simp] theorem rdField_formatR (op : BitVec 6) (rs rt rd sa : BitVec 5) (funct : BitVec 6) :
    rdField (formatR op rs rt rd sa funct) = rd :=
  (extract_above _ funct 5 5).trans <| (extract_above _ sa 0 5).trans <| extract_low _ rd

@[simp] theorem saField_formatR (op : BitVec 6) (rs rt rd sa : BitVec 5) (funct : BitVec 6) :
    saField (formatR op rs rt rd sa funct) = sa :=
  (extract_above _ funct 0 5).trans <| extract_low _ sa

@[simp] theorem functField_formatR (op : BitVec 6) (rs rt rd sa : BitVec 5) (funct : BitVec 6) :
    functField (formatR op rs rt rd sa funct) = funct :=
  extract_low _ funct

/-! ### `formatI` -/

@[simp] theorem opField_formatI (op : BitVec 6) (rs rt : BitVec 5) (imm : BitVec 16) :
    opField (formatI op rs rt imm) = op :=
  (extract_above _ imm 10 6).trans <| (extract_above _ rt 5 6).trans <| (extract_above _ rs 0 6).trans <| extract_all op

@[simp] theorem rsField_formatI (op : BitVec 6) (rs rt : BitVec 5) (imm : BitVec 16) :
    rsField (formatI op rs rt imm) = rs :=
  (extract_above _ imm 5 5).trans <| (extract_above _ rt 0 5).trans <| extract_low _ rs

@[simp] theorem rtField_formatI (op : BitVec 6) (rs rt : BitVec 5) (imm : BitVec 16) :
    rtField (formatI op rs rt imm) = rt :=
  (extract_above _ imm 0 5).trans <| extract_low _ rt

@[simp] theorem immField_formatI (op : BitVec 6) (rs rt : BitVec 5) (imm : BitVec 16) :
    immField (formatI op rs rt imm) = imm :=
  extract_low _ imm

/-! ### `formatJ` -/

@[simp] theorem opField_formatJ (op : BitVec 6) (target : BitVec 26) :
    opField (formatJ op target) = op :=
  (extract_above _ target 0 6).trans <| extract_all op

@[simp] theorem targetField_formatJ (op : BitVec 6) (target : BitVec 26) :
    targetField (formatJ op target) = target :=
  extract_low _ target

/-! ### `formatMWith` -/

@[simp] theorem opField_formatMWith (op : BitVec 6) (mv rt rd : BitVec 5) (e : BitVec 4) (ignored : BitVec 7) :
    opField (formatMWith op mv rt rd e ignored) = op :=
  (extract_above _ ignored 19 6).trans <| (extract_above _ e 15 6).trans <| (extract_above _ rd 10 6).trans <| (extract_above _ rt 5 6).trans <| (extract_above _ mv 0 6).trans <| extract_all op

@[simp] theorem rsField_formatMWith (op : BitVec 6) (mv rt rd : BitVec 5) (e : BitVec 4) (ignored : BitVec 7) :
    rsField (formatMWith op mv rt rd e ignored) = mv :=
  (extract_above _ ignored 14 5).trans <| (extract_above _ e 10 5).trans <| (extract_above _ rd 5 5).trans <| (extract_above _ rt 0 5).trans <| extract_low _ mv

@[simp] theorem rtField_formatMWith (op : BitVec 6) (mv rt rd : BitVec 5) (e : BitVec 4) (ignored : BitVec 7) :
    rtField (formatMWith op mv rt rd e ignored) = rt :=
  (extract_above _ ignored 9 5).trans <| (extract_above _ e 5 5).trans <| (extract_above _ rd 0 5).trans <| extract_low _ rt

@[simp] theorem rdField_formatMWith (op : BitVec 6) (mv rt rd : BitVec 5) (e : BitVec 4) (ignored : BitVec 7) :
    rdField (formatMWith op mv rt rd e ignored) = rd :=
  (extract_above _ ignored 4 5).trans <| (extract_above _ e 0 5).trans <| extract_low _ rd

@[simp] theorem byteElemField_formatMWith (op : BitVec 6) (mv rt rd : BitVec 5) (e : BitVec 4) (ignored : BitVec 7) :
    byteElemField (formatMWith op mv rt rd e ignored) = e :=
  (extract_above _ ignored 0 4).trans <| extract_low _ e

/-! ### `formatVM` -/

@[simp] theorem opField_formatVM (op : BitVec 6) (base vt vop : BitVec 5) (e : BitVec 4) (offset : BitVec 7) :
    opField (formatVM op base vt vop e offset) = op :=
  (extract_above _ offset 19 6).trans <| (extract_above _ e 15 6).trans <| (extract_above _ vop 10 6).trans <| (extract_above _ vt 5 6).trans <| (extract_above _ base 0 6).trans <| extract_all op

@[simp] theorem rsField_formatVM (op : BitVec 6) (base vt vop : BitVec 5) (e : BitVec 4) (offset : BitVec 7) :
    rsField (formatVM op base vt vop e offset) = base :=
  (extract_above _ offset 14 5).trans <| (extract_above _ e 10 5).trans <| (extract_above _ vop 5 5).trans <| (extract_above _ vt 0 5).trans <| extract_low _ base

@[simp] theorem rtField_formatVM (op : BitVec 6) (base vt vop : BitVec 5) (e : BitVec 4) (offset : BitVec 7) :
    rtField (formatVM op base vt vop e offset) = vt :=
  (extract_above _ offset 9 5).trans <| (extract_above _ e 5 5).trans <| (extract_above _ vop 0 5).trans <| extract_low _ vt

@[simp] theorem rdField_formatVM (op : BitVec 6) (base vt vop : BitVec 5) (e : BitVec 4) (offset : BitVec 7) :
    rdField (formatVM op base vt vop e offset) = vop :=
  (extract_above _ offset 4 5).trans <| (extract_above _ e 0 5).trans <| extract_low _ vop

@[simp] theorem byteElemField_formatVM (op : BitVec 6) (base vt vop : BitVec 5) (e : BitVec 4) (offset : BitVec 7) :
    byteElemField (formatVM op base vt vop e offset) = e :=
  (extract_above _ offset 0 4).trans <| extract_low _ e

@[simp] theorem offsetField_formatVM (op : BitVec 6) (base vt vop : BitVec 5) (e : BitVec 4) (offset : BitVec 7) :
    offsetField (formatVM op base vt vop e offset) = offset :=
  extract_low _ offset

/-! ### `formatV` -/

@[simp] theorem opField_formatV (e : BitVec 4) (vt vs vd : BitVec 5) (funct : BitVec 6) :
    opField (formatV e vt vs vd funct) = 0x12#6 :=
  (extract_above _ funct 20 6).trans <| (extract_above _ vd 15 6).trans <| (extract_above _ vs 10 6).trans <| (extract_above _ vt 5 6).trans <| (extract_above _ e 1 6).trans <| (extract_above _ 1#1 0 6).trans <| extract_all 0x12#6

@[simp] theorem rtField_formatV (e : BitVec 4) (vt vs vd : BitVec 5) (funct : BitVec 6) :
    rtField (formatV e vt vs vd funct) = vt :=
  (extract_above _ funct 10 5).trans <| (extract_above _ vd 5 5).trans <| (extract_above _ vs 0 5).trans <| extract_low _ vt

@[simp] theorem rdField_formatV (e : BitVec 4) (vt vs vd : BitVec 5) (funct : BitVec 6) :
    rdField (formatV e vt vs vd funct) = vs :=
  (extract_above _ funct 5 5).trans <| (extract_above _ vd 0 5).trans <| extract_low _ vs

@[simp] theorem saField_formatV (e : BitVec 4) (vt vs vd : BitVec 5) (funct : BitVec 6) :
    saField (formatV e vt vs vd funct) = vd :=
  (extract_above _ funct 0 5).trans <| extract_low _ vd

@[simp] theorem functField_formatV (e : BitVec 4) (vt vs vd : BitVec 5) (funct : BitVec 6) :
    functField (formatV e vt vs vd funct) = funct :=
  extract_low _ funct

@[simp] theorem elemField_formatV (e : BitVec 4) (vt vs vd : BitVec 5) (funct : BitVec 6) :
    elemField (formatV e vt vs vd funct) = e :=
  (extract_above _ funct 15 4).trans <| (extract_above _ vd 10 4).trans <| (extract_above _ vs 5 4).trans <| (extract_above _ vt 0 4).trans <| extract_low _ e

/-! ### `formatBreak` -/

@[simp] theorem opField_formatBreak (code : BitVec 20) :
    opField (formatBreak code) = 0x00#6 :=
  (extract_above _ 0x0D#6 20 6).trans <| (extract_above _ code 0 6).trans <| extract_all 0x00#6

@[simp] theorem functField_formatBreak (code : BitVec 20) :
    functField (formatBreak code) = 0x0D#6 :=
  extract_low _ 0x0D#6

@[simp] theorem codeField_formatBreak (code : BitVec 20) :
    codeField (formatBreak code) = code :=
  (extract_above _ 0x0D#6 0 20).trans <| extract_low _ code

/-- Bit 25 of format V is set: a vector computational instruction (R117). -/
@[simp] theorem bit25_formatV (e : BitVec 4) (vt vs vd : BitVec 5) (funct : BitVec 6) :
    (formatV e vt vs vd funct).getLsbD 25 = true :=
  (bit_above _ funct 19).trans <| (bit_above _ vd 14).trans <| (bit_above _ vs 9).trans <|
    (bit_above _ vt 4).trans <| bit_above _ e 0

/-- Bit 25 of format M is the top bit of the move kind (R117). -/
@[simp] theorem bit25_formatMWith (op : BitVec 6) (mv rt rd : BitVec 5) (e : BitVec 4)
    (ignored : BitVec 7) : (formatMWith op mv rt rd e ignored).getLsbD 25 = mv.getLsbD 4 :=
  (bit_above _ ignored 18).trans <| (bit_above _ e 14).trans <| (bit_above _ rd 9).trans <|
    (bit_above _ rt 4).trans <| bit_within op mv 4 (by decide)

/-- Bit 11 of format V: the shift selector of VRNDP and VRNDN (R249). -/
@[simp] theorem shField_formatV (e : BitVec 4) (vt vs vd : BitVec 5) (funct : BitVec 6) :
    shField (formatV e vt vs vd funct) = vs.setWidth 1 :=
  (extract_above _ funct 5 1).trans <| (extract_above _ vd 0 1).trans <|
    (extract_within _ vs 0 1 (by decide)).trans <| extract_zero vs 1

/-! ### Bytes -/

/-- The four bytes of a word, put together again, are the word. -/
@[simp] theorem wordBytes_append (w : Word) :
    w.extractLsb' 24 8 ++ w.extractLsb' 16 8 ++ w.extractLsb' 8 8 ++ w.extractLsb' 0 8 = w := by
  rw [extract_join w 16 8 8, extract_join w 8 16 8, extract_join w 0 24 8]
  exact extract_all w

/-- The decoder reads the bytes of a word as the word (R72). -/
theorem decodeBytes_wordBytes (w : Word) (rest : List Byte) :
    decodeBytes (wordBytes w ++ rest) =
      match decode w with
      | .ok i => .ok (i, rest)
      | .error r => .error r :=
  congrArg (fun v => match decode v with
    | .ok i => Except.ok (i, rest)
    | .error r => Except.error r) (wordBytes_append w)

/-- A table word of 32 bits is the word of its low 32 bits. -/
@[simp] theorem tableWord_toNat (w : Word) : tableWord 32 w.toNat = w := by
  simp [tableWord, Nat.mod_eq_of_lt w.isLt]

end Sys2Proof
end

