-- ==== Sys2Proof/Laws/Decode.lean ====
section
/-! SUPPORT. What the word of each row of the opcode table decodes to, every field the instruction ignores left free
(R121): one lemma per constructor. -/

namespace Sys2Proof

theorem decode_special {w : Word} (h : opField w = 0x00) : decode w = decodeSpecial w := by
  rw [decode, h]; rfl
theorem decode_regimm {w : Word} (h : opField w = 0x01) : decode w = decodeRegimm w := by
  rw [decode, h]; rfl
theorem decode_cop0 {w : Word} (h : opField w = 0x10) : decode w = decodeCop0 w := by
  rw [decode, h]; rfl
theorem decode_cop2Move {w : Word} (h : opField w = 0x12) (hb : w.getLsbD 25 = false) :
    decode w = decodeCop2Move w := by
  rw [decode, h]; exact if_neg (ne_true_of_eq_false hb)
theorem decode_vector {w : Word} (h : opField w = 0x12) (hb : w.getLsbD 25 = true) :
    decode w = .ok (decodeVector w) := by
  rw [decode, h]; exact if_pos hb
theorem decode_vectorLoad {w : Word} (h : opField w = 0x32) : decode w = decodeVectorLoad w := by
  rw [decode, h]; rfl
theorem decode_vectorStore {w : Word} (h : opField w = 0x3A) : decode w = decodeVectorStore w := by
  rw [decode, h]; rfl

/-! ### Scalar register arithmetic, logic and comparison (40_scalar_alu.md) -/

theorem decode_add (rs rt rd sa : BitVec 5) :
    decode (formatR 0x00 rs rt rd sa 0x20) = .ok (.add rd rs rt) := by
  rw [decode_special (opField_formatR ..), decodeSpecial, functField_formatR]
  show Except.ok (Instr.add (rdField _) (rsField _) (rtField _)) = _
  rw [rdField_formatR, rsField_formatR, rtField_formatR]

theorem decode_addu (rs rt rd sa : BitVec 5) :
    decode (formatR 0x00 rs rt rd sa 0x21) = .ok (.addu rd rs rt) := by
  rw [decode_special (opField_formatR ..), decodeSpecial, functField_formatR]
  show Except.ok (Instr.addu (rdField _) (rsField _) (rtField _)) = _
  rw [rdField_formatR, rsField_formatR, rtField_formatR]

theorem decode_sub (rs rt rd sa : BitVec 5) :
    decode (formatR 0x00 rs rt rd sa 0x22) = .ok (.sub rd rs rt) := by
  rw [decode_special (opField_formatR ..), decodeSpecial, functField_formatR]
  show Except.ok (Instr.sub (rdField _) (rsField _) (rtField _)) = _
  rw [rdField_formatR, rsField_formatR, rtField_formatR]

theorem decode_subu (rs rt rd sa : BitVec 5) :
    decode (formatR 0x00 rs rt rd sa 0x23) = .ok (.subu rd rs rt) := by
  rw [decode_special (opField_formatR ..), decodeSpecial, functField_formatR]
  show Except.ok (Instr.subu (rdField _) (rsField _) (rtField _)) = _
  rw [rdField_formatR, rsField_formatR, rtField_formatR]

theorem decode_and (rs rt rd sa : BitVec 5) :
    decode (formatR 0x00 rs rt rd sa 0x24) = .ok (.and rd rs rt) := by
  rw [decode_special (opField_formatR ..), decodeSpecial, functField_formatR]
  show Except.ok (Instr.and (rdField _) (rsField _) (rtField _)) = _
  rw [rdField_formatR, rsField_formatR, rtField_formatR]

theorem decode_or (rs rt rd sa : BitVec 5) :
    decode (formatR 0x00 rs rt rd sa 0x25) = .ok (.or rd rs rt) := by
  rw [decode_special (opField_formatR ..), decodeSpecial, functField_formatR]
  show Except.ok (Instr.or (rdField _) (rsField _) (rtField _)) = _
  rw [rdField_formatR, rsField_formatR, rtField_formatR]

theorem decode_xor (rs rt rd sa : BitVec 5) :
    decode (formatR 0x00 rs rt rd sa 0x26) = .ok (.xor rd rs rt) := by
  rw [decode_special (opField_formatR ..), decodeSpecial, functField_formatR]
  show Except.ok (Instr.xor (rdField _) (rsField _) (rtField _)) = _
  rw [rdField_formatR, rsField_formatR, rtField_formatR]

theorem decode_nor (rs rt rd sa : BitVec 5) :
    decode (formatR 0x00 rs rt rd sa 0x27) = .ok (.nor rd rs rt) := by
  rw [decode_special (opField_formatR ..), decodeSpecial, functField_formatR]
  show Except.ok (Instr.nor (rdField _) (rsField _) (rtField _)) = _
  rw [rdField_formatR, rsField_formatR, rtField_formatR]

theorem decode_slt (rs rt rd sa : BitVec 5) :
    decode (formatR 0x00 rs rt rd sa 0x2A) = .ok (.slt rd rs rt) := by
  rw [decode_special (opField_formatR ..), decodeSpecial, functField_formatR]
  show Except.ok (Instr.slt (rdField _) (rsField _) (rtField _)) = _
  rw [rdField_formatR, rsField_formatR, rtField_formatR]

theorem decode_sltu (rs rt rd sa : BitVec 5) :
    decode (formatR 0x00 rs rt rd sa 0x2B) = .ok (.sltu rd rs rt) := by
  rw [decode_special (opField_formatR ..), decodeSpecial, functField_formatR]
  show Except.ok (Instr.sltu (rdField _) (rsField _) (rtField _)) = _
  rw [rdField_formatR, rsField_formatR, rtField_formatR]

/-! ### Shifts (40_scalar_alu.md) -/

theorem decode_sll (rs rt rd sa : BitVec 5) :
    decode (formatR 0x00 rs rt rd sa 0x00) = .ok (.sll rd rt sa) := by
  rw [decode_special (opField_formatR ..), decodeSpecial, functField_formatR]
  show Except.ok (Instr.sll (rdField _) (rtField _) (saField _)) = _
  rw [rdField_formatR, rtField_formatR, saField_formatR]

theorem decode_srl (rs rt rd sa : BitVec 5) :
    decode (formatR 0x00 rs rt rd sa 0x02) = .ok (.srl rd rt sa) := by
  rw [decode_special (opField_formatR ..), decodeSpecial, functField_formatR]
  show Except.ok (Instr.srl (rdField _) (rtField _) (saField _)) = _
  rw [rdField_formatR, rtField_formatR, saField_formatR]

theorem decode_sra (rs rt rd sa : BitVec 5) :
    decode (formatR 0x00 rs rt rd sa 0x03) = .ok (.sra rd rt sa) := by
  rw [decode_special (opField_formatR ..), decodeSpecial, functField_formatR]
  show Except.ok (Instr.sra (rdField _) (rtField _) (saField _)) = _
  rw [rdField_formatR, rtField_formatR, saField_formatR]

theorem decode_sllv (rs rt rd sa : BitVec 5) :
    decode (formatR 0x00 rs rt rd sa 0x04) = .ok (.sllv rd rt rs) := by
  rw [decode_special (opField_formatR ..), decodeSpecial, functField_formatR]
  show Except.ok (Instr.sllv (rdField _) (rtField _) (rsField _)) = _
  rw [rdField_formatR, rtField_formatR, rsField_formatR]

theorem decode_srlv (rs rt rd sa : BitVec 5) :
    decode (formatR 0x00 rs rt rd sa 0x06) = .ok (.srlv rd rt rs) := by
  rw [decode_special (opField_formatR ..), decodeSpecial, functField_formatR]
  show Except.ok (Instr.srlv (rdField _) (rtField _) (rsField _)) = _
  rw [rdField_formatR, rtField_formatR, rsField_formatR]

theorem decode_srav (rs rt rd sa : BitVec 5) :
    decode (formatR 0x00 rs rt rd sa 0x07) = .ok (.srav rd rt rs) := by
  rw [decode_special (opField_formatR ..), decodeSpecial, functField_formatR]
  show Except.ok (Instr.srav (rdField _) (rtField _) (rsField _)) = _
  rw [rdField_formatR, rtField_formatR, rsField_formatR]

/-! ### Immediate forms (40_scalar_alu.md) -/

theorem decode_addi (rs rt : Reg) (imm : BitVec 16) :
    decode (formatI 0x08 rs rt imm) = .ok (.addi rt rs imm) := by
  rw [decode, opField_formatI]
  show Except.ok (Instr.addi (rtField _) (rsField _) (immField _)) = _
  rw [rtField_formatI, rsField_formatI, immField_formatI]

theorem decode_addiu (rs rt : Reg) (imm : BitVec 16) :
    decode (formatI 0x09 rs rt imm) = .ok (.addiu rt rs imm) := by
  rw [decode, opField_formatI]
  show Except.ok (Instr.addiu (rtField _) (rsField _) (immField _)) = _
  rw [rtField_formatI, rsField_formatI, immField_formatI]

theorem decode_slti (rs rt : Reg) (imm : BitVec 16) :
    decode (formatI 0x0A rs rt imm) = .ok (.slti rt rs imm) := by
  rw [decode, opField_formatI]
  show Except.ok (Instr.slti (rtField _) (rsField _) (immField _)) = _
  rw [rtField_formatI, rsField_formatI, immField_formatI]

theorem decode_sltiu (rs rt : Reg) (imm : BitVec 16) :
    decode (formatI 0x0B rs rt imm) = .ok (.sltiu rt rs imm) := by
  rw [decode, opField_formatI]
  show Except.ok (Instr.sltiu (rtField _) (rsField _) (immField _)) = _
  rw [rtField_formatI, rsField_formatI, immField_formatI]

theorem decode_andi (rs rt : Reg) (imm : BitVec 16) :
    decode (formatI 0x0C rs rt imm) = .ok (.andi rt rs imm) := by
  rw [decode, opField_formatI]
  show Except.ok (Instr.andi (rtField _) (rsField _) (immField _)) = _
  rw [rtField_formatI, rsField_formatI, immField_formatI]

theorem decode_ori (rs rt : Reg) (imm : BitVec 16) :
    decode (formatI 0x0D rs rt imm) = .ok (.ori rt rs imm) := by
  rw [decode, opField_formatI]
  show Except.ok (Instr.ori (rtField _) (rsField _) (immField _)) = _
  rw [rtField_formatI, rsField_formatI, immField_formatI]

theorem decode_xori (rs rt : Reg) (imm : BitVec 16) :
    decode (formatI 0x0E rs rt imm) = .ok (.xori rt rs imm) := by
  rw [decode, opField_formatI]
  show Except.ok (Instr.xori (rtField _) (rsField _) (immField _)) = _
  rw [rtField_formatI, rsField_formatI, immField_formatI]

theorem decode_lui (rs rt : Reg) (imm : BitVec 16) :
    decode (formatI 0x0F rs rt imm) = .ok (.lui rt imm) := by
  rw [decode, opField_formatI]
  show Except.ok (Instr.lui (rtField _) (immField _)) = _
  rw [rtField_formatI, immField_formatI]

/-! ### Scalar loads and stores (42_scalar_loadstore.md) -/

theorem decode_lb (base rt : Reg) (imm : BitVec 16) :
    decode (formatI 0x20 base rt imm) = .ok (.lb rt imm base) := by
  rw [decode, opField_formatI]
  show Except.ok (Instr.lb (rtField _) (immField _) (rsField _)) = _
  rw [rtField_formatI, immField_formatI, rsField_formatI]

theorem decode_lh (base rt : Reg) (imm : BitVec 16) :
    decode (formatI 0x21 base rt imm) = .ok (.lh rt imm base) := by
  rw [decode, opField_formatI]
  show Except.ok (Instr.lh (rtField _) (immField _) (rsField _)) = _
  rw [rtField_formatI, immField_formatI, rsField_formatI]

theorem decode_lw (base rt : Reg) (imm : BitVec 16) :
    decode (formatI 0x23 base rt imm) = .ok (.lw rt imm base) := by
  rw [decode, opField_formatI]
  show Except.ok (Instr.lw (rtField _) (immField _) (rsField _)) = _
  rw [rtField_formatI, immField_formatI, rsField_formatI]

theorem decode_lbu (base rt : Reg) (imm : BitVec 16) :
    decode (formatI 0x24 base rt imm) = .ok (.lbu rt imm base) := by
  rw [decode, opField_formatI]
  show Except.ok (Instr.lbu (rtField _) (immField _) (rsField _)) = _
  rw [rtField_formatI, immField_formatI, rsField_formatI]

theorem decode_lhu (base rt : Reg) (imm : BitVec 16) :
    decode (formatI 0x25 base rt imm) = .ok (.lhu rt imm base) := by
  rw [decode, opField_formatI]
  show Except.ok (Instr.lhu (rtField _) (immField _) (rsField _)) = _
  rw [rtField_formatI, immField_formatI, rsField_formatI]

theorem decode_lwu (base rt : Reg) (imm : BitVec 16) :
    decode (formatI 0x27 base rt imm) = .ok (.lwu rt imm base) := by
  rw [decode, opField_formatI]
  show Except.ok (Instr.lwu (rtField _) (immField _) (rsField _)) = _
  rw [rtField_formatI, immField_formatI, rsField_formatI]

theorem decode_sb (base rt : Reg) (imm : BitVec 16) :
    decode (formatI 0x28 base rt imm) = .ok (.sb rt imm base) := by
  rw [decode, opField_formatI]
  show Except.ok (Instr.sb (rtField _) (immField _) (rsField _)) = _
  rw [rtField_formatI, immField_formatI, rsField_formatI]

theorem decode_sh (base rt : Reg) (imm : BitVec 16) :
    decode (formatI 0x29 base rt imm) = .ok (.sh rt imm base) := by
  rw [decode, opField_formatI]
  show Except.ok (Instr.sh (rtField _) (immField _) (rsField _)) = _
  rw [rtField_formatI, immField_formatI, rsField_formatI]

theorem decode_sw (base rt : Reg) (imm : BitVec 16) :
    decode (formatI 0x2B base rt imm) = .ok (.sw rt imm base) := by
  rw [decode, opField_formatI]
  show Except.ok (Instr.sw (rtField _) (immField _) (rsField _)) = _
  rw [rtField_formatI, immField_formatI, rsField_formatI]

/-! ### Jumps and branches (41_scalar_branch.md) -/

theorem decode_j (target : BitVec 26) :
    decode (formatJ 0x02 target) = .ok (.j target) := by
  rw [decode, opField_formatJ]
  show Except.ok (Instr.j (targetField _)) = _
  rw [targetField_formatJ]

theorem decode_jal (target : BitVec 26) :
    decode (formatJ 0x03 target) = .ok (.jal target) := by
  rw [decode, opField_formatJ]
  show Except.ok (Instr.jal (targetField _)) = _
  rw [targetField_formatJ]

theorem decode_jr (rs rt rd sa : BitVec 5) :
    decode (formatR 0x00 rs rt rd sa 0x08) = .ok (.jr rs) := by
  rw [decode_special (opField_formatR ..), decodeSpecial, functField_formatR]
  show Except.ok (Instr.jr (rsField _)) = _
  rw [rsField_formatR]

theorem decode_jalr (rs rt rd sa : BitVec 5) :
    decode (formatR 0x00 rs rt rd sa 0x09) = .ok (.jalr rd rs) := by
  rw [decode_special (opField_formatR ..), decodeSpecial, functField_formatR]
  show Except.ok (Instr.jalr (rdField _) (rsField _)) = _
  rw [rdField_formatR, rsField_formatR]

theorem decode_beq (rs rt : Reg) (imm : BitVec 16) :
    decode (formatI 0x04 rs rt imm) = .ok (.beq rs rt imm) := by
  rw [decode, opField_formatI]
  show Except.ok (Instr.beq (rsField _) (rtField _) (immField _)) = _
  rw [rsField_formatI, rtField_formatI, immField_formatI]

theorem decode_bne (rs rt : Reg) (imm : BitVec 16) :
    decode (formatI 0x05 rs rt imm) = .ok (.bne rs rt imm) := by
  rw [decode, opField_formatI]
  show Except.ok (Instr.bne (rsField _) (rtField _) (immField _)) = _
  rw [rsField_formatI, rtField_formatI, immField_formatI]

theorem decode_blez (rs rt : Reg) (imm : BitVec 16) :
    decode (formatI 0x06 rs rt imm) = .ok (.blez rs imm) := by
  rw [decode, opField_formatI]
  show Except.ok (Instr.blez (rsField _) (immField _)) = _
  rw [rsField_formatI, immField_formatI]

theorem decode_bgtz (rs rt : Reg) (imm : BitVec 16) :
    decode (formatI 0x07 rs rt imm) = .ok (.bgtz rs imm) := by
  rw [decode, opField_formatI]
  show Except.ok (Instr.bgtz (rsField _) (immField _)) = _
  rw [rsField_formatI, immField_formatI]

theorem decode_bltz (rs : Reg) (imm : BitVec 16) :
    decode (formatI 0x01 rs 0x00 imm) = .ok (.bltz rs imm) := by
  rw [decode_regimm (opField_formatI ..), decodeRegimm, rtField_formatI]
  show Except.ok (Instr.bltz (rsField _) (immField _)) = _
  rw [rsField_formatI, immField_formatI]

theorem decode_bgez (rs : Reg) (imm : BitVec 16) :
    decode (formatI 0x01 rs 0x01 imm) = .ok (.bgez rs imm) := by
  rw [decode_regimm (opField_formatI ..), decodeRegimm, rtField_formatI]
  show Except.ok (Instr.bgez (rsField _) (immField _)) = _
  rw [rsField_formatI, immField_formatI]

theorem decode_bltzal (rs : Reg) (imm : BitVec 16) :
    decode (formatI 0x01 rs 0x10 imm) = .ok (.bltzal rs imm) := by
  rw [decode_regimm (opField_formatI ..), decodeRegimm, rtField_formatI]
  show Except.ok (Instr.bltzal (rsField _) (immField _)) = _
  rw [rsField_formatI, immField_formatI]

theorem decode_bgezal (rs : Reg) (imm : BitVec 16) :
    decode (formatI 0x01 rs 0x11 imm) = .ok (.bgezal rs imm) := by
  rw [decode_regimm (opField_formatI ..), decodeRegimm, rtField_formatI]
  show Except.ok (Instr.bgezal (rsField _) (immField _)) = _
  rw [rsField_formatI, immField_formatI]

/-! ### BREAK and the coprocessor moves (43_scalar_cop_moves.md) -/

theorem decode_brk (code : BitVec 20) :
    decode (formatBreak code) = .ok (.brk code) := by
  rw [decode_special (opField_formatBreak ..), decodeSpecial, functField_formatBreak]
  show Except.ok (Instr.brk (codeField _)) = _
  rw [codeField_formatBreak]

theorem decode_mfc0 (rt rd : Reg) (e : Elem) (ignored : BitVec 7) :
    decode (formatMWith 0x10 0x00 rt rd e ignored) = .ok (.mfc0 rt rd) := by
  rw [decode_cop0 (opField_formatMWith ..), decodeCop0, rsField_formatMWith]
  show Except.ok (Instr.mfc0 (rtField _) (rdField _)) = _
  rw [rtField_formatMWith, rdField_formatMWith]

theorem decode_mtc0 (rt rd : Reg) (e : Elem) (ignored : BitVec 7) :
    decode (formatMWith 0x10 0x04 rt rd e ignored) = .ok (.mtc0 rt rd) := by
  rw [decode_cop0 (opField_formatMWith ..), decodeCop0, rsField_formatMWith]
  show Except.ok (Instr.mtc0 (rtField _) (rdField _)) = _
  rw [rtField_formatMWith, rdField_formatMWith]

theorem decode_mfc2 (rt rd : Reg) (e : Elem) (ignored : BitVec 7) :
    decode (formatMWith 0x12 0x00 rt rd e ignored) = .ok (.mfc2 rt rd e) := by
  rw [decode_cop2Move (opField_formatMWith ..) (bit25_formatMWith ..), decodeCop2Move, rsField_formatMWith]
  show Except.ok (Instr.mfc2 (rtField _) (rdField _) (byteElemField _)) = _
  rw [rtField_formatMWith, rdField_formatMWith, byteElemField_formatMWith]

theorem decode_mtc2 (rt rd : Reg) (e : Elem) (ignored : BitVec 7) :
    decode (formatMWith 0x12 0x04 rt rd e ignored) = .ok (.mtc2 rt rd e) := by
  rw [decode_cop2Move (opField_formatMWith ..) (bit25_formatMWith ..), decodeCop2Move, rsField_formatMWith]
  show Except.ok (Instr.mtc2 (rtField _) (rdField _) (byteElemField _)) = _
  rw [rtField_formatMWith, rdField_formatMWith, byteElemField_formatMWith]

theorem decode_cfc2 (rt rd : Reg) (e : Elem) (ignored : BitVec 7) :
    decode (formatMWith 0x12 0x02 rt rd e ignored) = .ok (.cfc2 rt rd) := by
  rw [decode_cop2Move (opField_formatMWith ..) (bit25_formatMWith ..), decodeCop2Move, rsField_formatMWith]
  show Except.ok (Instr.cfc2 (rtField _) (rdField _)) = _
  rw [rtField_formatMWith, rdField_formatMWith]

theorem decode_ctc2 (rt rd : Reg) (e : Elem) (ignored : BitVec 7) :
    decode (formatMWith 0x12 0x06 rt rd e ignored) = .ok (.ctc2 rt rd) := by
  rw [decode_cop2Move (opField_formatMWith ..) (bit25_formatMWith ..), decodeCop2Move, rsField_formatMWith]
  show Except.ok (Instr.ctc2 (rtField _) (rdField _)) = _
  rw [rtField_formatMWith, rdField_formatMWith]

/-! ### Vector multiply and multiply-accumulate (44_vector_multiply.md) -/

theorem decode_vmulf (e : Elem) (vt vs vd : Reg) :
    decode (formatV e vt vs vd 0x00) = .ok (.vmulf vd vs vt e) := by
  rw [decode_vector (opField_formatV ..) (bit25_formatV ..), decodeVector, functField_formatV]
  show Except.ok (Instr.vmulf (saField _) (rdField _) (rtField _) (elemField _)) = _
  rw [saField_formatV, rdField_formatV, rtField_formatV, elemField_formatV]

theorem decode_vmulu (e : Elem) (vt vs vd : Reg) :
    decode (formatV e vt vs vd 0x01) = .ok (.vmulu vd vs vt e) := by
  rw [decode_vector (opField_formatV ..) (bit25_formatV ..), decodeVector, functField_formatV]
  show Except.ok (Instr.vmulu (saField _) (rdField _) (rtField _) (elemField _)) = _
  rw [saField_formatV, rdField_formatV, rtField_formatV, elemField_formatV]

theorem decode_vrndp (e : Elem) (vt vs vd : Reg) :
    decode (formatV e vt vs vd 0x02) = .ok (.vrndp vd (vs.setWidth 1) vt e) := by
  rw [decode_vector (opField_formatV ..) (bit25_formatV ..), decodeVector, functField_formatV]
  show Except.ok (Instr.vrndp (saField _) (shField _) (rtField _) (elemField _)) = _
  rw [saField_formatV, shField_formatV, rtField_formatV, elemField_formatV]

theorem decode_vmulq (e : Elem) (vt vs vd : Reg) :
    decode (formatV e vt vs vd 0x03) = .ok (.vmulq vd vs vt e) := by
  rw [decode_vector (opField_formatV ..) (bit25_formatV ..), decodeVector, functField_formatV]
  show Except.ok (Instr.vmulq (saField _) (rdField _) (rtField _) (elemField _)) = _
  rw [saField_formatV, rdField_formatV, rtField_formatV, elemField_formatV]

theorem decode_vmudl (e : Elem) (vt vs vd : Reg) :
    decode (formatV e vt vs vd 0x04) = .ok (.vmudl vd vs vt e) := by
  rw [decode_vector (opField_formatV ..) (bit25_formatV ..), decodeVector, functField_formatV]
  show Except.ok (Instr.vmudl (saField _) (rdField _) (rtField _) (elemField _)) = _
  rw [saField_formatV, rdField_formatV, rtField_formatV, elemField_formatV]

theorem decode_vmudm (e : Elem) (vt vs vd : Reg) :
    decode (formatV e vt vs vd 0x05) = .ok (.vmudm vd vs vt e) := by
  rw [decode_vector (opField_formatV ..) (bit25_formatV ..), decodeVector, functField_formatV]
  show Except.ok (Instr.vmudm (saField _) (rdField _) (rtField _) (elemField _)) = _
  rw [saField_formatV, rdField_formatV, rtField_formatV, elemField_formatV]

theorem decode_vmudn (e : Elem) (vt vs vd : Reg) :
    decode (formatV e vt vs vd 0x06) = .ok (.vmudn vd vs vt e) := by
  rw [decode_vector (opField_formatV ..) (bit25_formatV ..), decodeVector, functField_formatV]
  show Except.ok (Instr.vmudn (saField _) (rdField _) (rtField _) (elemField _)) = _
  rw [saField_formatV, rdField_formatV, rtField_formatV, elemField_formatV]

theorem decode_vmudh (e : Elem) (vt vs vd : Reg) :
    decode (formatV e vt vs vd 0x07) = .ok (.vmudh vd vs vt e) := by
  rw [decode_vector (opField_formatV ..) (bit25_formatV ..), decodeVector, functField_formatV]
  show Except.ok (Instr.vmudh (saField _) (rdField _) (rtField _) (elemField _)) = _
  rw [saField_formatV, rdField_formatV, rtField_formatV, elemField_formatV]

theorem decode_vmacf (e : Elem) (vt vs vd : Reg) :
    decode (formatV e vt vs vd 0x08) = .ok (.vmacf vd vs vt e) := by
  rw [decode_vector (opField_formatV ..) (bit25_formatV ..), decodeVector, functField_formatV]
  show Except.ok (Instr.vmacf (saField _) (rdField _) (rtField _) (elemField _)) = _
  rw [saField_formatV, rdField_formatV, rtField_formatV, elemField_formatV]

theorem decode_vmacu (e : Elem) (vt vs vd : Reg) :
    decode (formatV e vt vs vd 0x09) = .ok (.vmacu vd vs vt e) := by
  rw [decode_vector (opField_formatV ..) (bit25_formatV ..), decodeVector, functField_formatV]
  show Except.ok (Instr.vmacu (saField _) (rdField _) (rtField _) (elemField _)) = _
  rw [saField_formatV, rdField_formatV, rtField_formatV, elemField_formatV]

theorem decode_vrndn (e : Elem) (vt vs vd : Reg) :
    decode (formatV e vt vs vd 0x0A) = .ok (.vrndn vd (vs.setWidth 1) vt e) := by
  rw [decode_vector (opField_formatV ..) (bit25_formatV ..), decodeVector, functField_formatV]
  show Except.ok (Instr.vrndn (saField _) (shField _) (rtField _) (elemField _)) = _
  rw [saField_formatV, shField_formatV, rtField_formatV, elemField_formatV]

theorem decode_vmacq (e : Elem) (vt vs vd : Reg) :
    decode (formatV e vt vs vd 0x0B) = .ok (.vmacq vd vs vt e) := by
  rw [decode_vector (opField_formatV ..) (bit25_formatV ..), decodeVector, functField_formatV]
  show Except.ok (Instr.vmacq (saField _) (rdField _) (rtField _) (elemField _)) = _
  rw [saField_formatV, rdField_formatV, rtField_formatV, elemField_formatV]

theorem decode_vmadl (e : Elem) (vt vs vd : Reg) :
    decode (formatV e vt vs vd 0x0C) = .ok (.vmadl vd vs vt e) := by
  rw [decode_vector (opField_formatV ..) (bit25_formatV ..), decodeVector, functField_formatV]
  show Except.ok (Instr.vmadl (saField _) (rdField _) (rtField _) (elemField _)) = _
  rw [saField_formatV, rdField_formatV, rtField_formatV, elemField_formatV]

theorem decode_vmadm (e : Elem) (vt vs vd : Reg) :
    decode (formatV e vt vs vd 0x0D) = .ok (.vmadm vd vs vt e) := by
  rw [decode_vector (opField_formatV ..) (bit25_formatV ..), decodeVector, functField_formatV]
  show Except.ok (Instr.vmadm (saField _) (rdField _) (rtField _) (elemField _)) = _
  rw [saField_formatV, rdField_formatV, rtField_formatV, elemField_formatV]

theorem decode_vmadn (e : Elem) (vt vs vd : Reg) :
    decode (formatV e vt vs vd 0x0E) = .ok (.vmadn vd vs vt e) := by
  rw [decode_vector (opField_formatV ..) (bit25_formatV ..), decodeVector, functField_formatV]
  show Except.ok (Instr.vmadn (saField _) (rdField _) (rtField _) (elemField _)) = _
  rw [saField_formatV, rdField_formatV, rtField_formatV, elemField_formatV]

theorem decode_vmadh (e : Elem) (vt vs vd : Reg) :
    decode (formatV e vt vs vd 0x0F) = .ok (.vmadh vd vs vt e) := by
  rw [decode_vector (opField_formatV ..) (bit25_formatV ..), decodeVector, functField_formatV]
  show Except.ok (Instr.vmadh (saField _) (rdField _) (rtField _) (elemField _)) = _
  rw [saField_formatV, rdField_formatV, rtField_formatV, elemField_formatV]

/-! ### Vector add, subtract, accumulator read, logic (45_vector_add_logic.md) -/

theorem decode_vadd (e : Elem) (vt vs vd : Reg) :
    decode (formatV e vt vs vd 0x10) = .ok (.vadd vd vs vt e) := by
  rw [decode_vector (opField_formatV ..) (bit25_formatV ..), decodeVector, functField_formatV]
  show Except.ok (Instr.vadd (saField _) (rdField _) (rtField _) (elemField _)) = _
  rw [saField_formatV, rdField_formatV, rtField_formatV, elemField_formatV]

theorem decode_vsub (e : Elem) (vt vs vd : Reg) :
    decode (formatV e vt vs vd 0x11) = .ok (.vsub vd vs vt e) := by
  rw [decode_vector (opField_formatV ..) (bit25_formatV ..), decodeVector, functField_formatV]
  show Except.ok (Instr.vsub (saField _) (rdField _) (rtField _) (elemField _)) = _
  rw [saField_formatV, rdField_formatV, rtField_formatV, elemField_formatV]

theorem decode_vabs (e : Elem) (vt vs vd : Reg) :
    decode (formatV e vt vs vd 0x13) = .ok (.vabs vd vs vt e) := by
  rw [decode_vector (opField_formatV ..) (bit25_formatV ..), decodeVector, functField_formatV]
  show Except.ok (Instr.vabs (saField _) (rdField _) (rtField _) (elemField _)) = _
  rw [saField_formatV, rdField_formatV, rtField_formatV, elemField_formatV]

theorem decode_vaddc (e : Elem) (vt vs vd : Reg) :
    decode (formatV e vt vs vd 0x14) = .ok (.vaddc vd vs vt e) := by
  rw [decode_vector (opField_formatV ..) (bit25_formatV ..), decodeVector, functField_formatV]
  show Except.ok (Instr.vaddc (saField _) (rdField _) (rtField _) (elemField _)) = _
  rw [saField_formatV, rdField_formatV, rtField_formatV, elemField_formatV]

theorem decode_vsubc (e : Elem) (vt vs vd : Reg) :
    decode (formatV e vt vs vd 0x15) = .ok (.vsubc vd vs vt e) := by
  rw [decode_vector (opField_formatV ..) (bit25_formatV ..), decodeVector, functField_formatV]
  show Except.ok (Instr.vsubc (saField _) (rdField _) (rtField _) (elemField _)) = _
  rw [saField_formatV, rdField_formatV, rtField_formatV, elemField_formatV]

theorem decode_vsar (e : Elem) (vt vs vd : Reg) :
    decode (formatV e vt vs vd 0x1D) = .ok (.vsar vd e) := by
  rw [decode_vector (opField_formatV ..) (bit25_formatV ..), decodeVector, functField_formatV]
  show Except.ok (Instr.vsar (saField _) (elemField _)) = _
  rw [saField_formatV, elemField_formatV]

theorem decode_vand (e : Elem) (vt vs vd : Reg) :
    decode (formatV e vt vs vd 0x28) = .ok (.vand vd vs vt e) := by
  rw [decode_vector (opField_formatV ..) (bit25_formatV ..), decodeVector, functField_formatV]
  show Except.ok (Instr.vand (saField _) (rdField _) (rtField _) (elemField _)) = _
  rw [saField_formatV, rdField_formatV, rtField_formatV, elemField_formatV]

theorem decode_vnand (e : Elem) (vt vs vd : Reg) :
    decode (formatV e vt vs vd 0x29) = .ok (.vnand vd vs vt e) := by
  rw [decode_vector (opField_formatV ..) (bit25_formatV ..), decodeVector, functField_formatV]
  show Except.ok (Instr.vnand (saField _) (rdField _) (rtField _) (elemField _)) = _
  rw [saField_formatV, rdField_formatV, rtField_formatV, elemField_formatV]

theorem decode_vor (e : Elem) (vt vs vd : Reg) :
    decode (formatV e vt vs vd 0x2A) = .ok (.vor vd vs vt e) := by
  rw [decode_vector (opField_formatV ..) (bit25_formatV ..), decodeVector, functField_formatV]
  show Except.ok (Instr.vor (saField _) (rdField _) (rtField _) (elemField _)) = _
  rw [saField_formatV, rdField_formatV, rtField_formatV, elemField_formatV]

theorem decode_vnor (e : Elem) (vt vs vd : Reg) :
    decode (formatV e vt vs vd 0x2B) = .ok (.vnor vd vs vt e) := by
  rw [decode_vector (opField_formatV ..) (bit25_formatV ..), decodeVector, functField_formatV]
  show Except.ok (Instr.vnor (saField _) (rdField _) (rtField _) (elemField _)) = _
  rw [saField_formatV, rdField_formatV, rtField_formatV, elemField_formatV]

theorem decode_vxor (e : Elem) (vt vs vd : Reg) :
    decode (formatV e vt vs vd 0x2C) = .ok (.vxor vd vs vt e) := by
  rw [decode_vector (opField_formatV ..) (bit25_formatV ..), decodeVector, functField_formatV]
  show Except.ok (Instr.vxor (saField _) (rdField _) (rtField _) (elemField _)) = _
  rw [saField_formatV, rdField_formatV, rtField_formatV, elemField_formatV]

theorem decode_vnxor (e : Elem) (vt vs vd : Reg) :
    decode (formatV e vt vs vd 0x2D) = .ok (.vnxor vd vs vt e) := by
  rw [decode_vector (opField_formatV ..) (bit25_formatV ..), decodeVector, functField_formatV]
  show Except.ok (Instr.vnxor (saField _) (rdField _) (rtField _) (elemField _)) = _
  rw [saField_formatV, rdField_formatV, rtField_formatV, elemField_formatV]

/-! ### Reserved vector opcodes (45_vector_add_logic.md R295) -/

theorem decode_vrsvd12 (e : Elem) (vt vs vd : Reg) :
    decode (formatV e vt vs vd 0x12) = .ok (.vrsvd12 vd vs vt e) := by
  rw [decode_vector (opField_formatV ..) (bit25_formatV ..), decodeVector, functField_formatV]
  show Except.ok (Instr.vrsvd12 (saField _) (rdField _) (rtField _) (elemField _)) = _
  rw [saField_formatV, rdField_formatV, rtField_formatV, elemField_formatV]

theorem decode_vrsvd16 (e : Elem) (vt vs vd : Reg) :
    decode (formatV e vt vs vd 0x16) = .ok (.vrsvd16 vd vs vt e) := by
  rw [decode_vector (opField_formatV ..) (bit25_formatV ..), decodeVector, functField_formatV]
  show Except.ok (Instr.vrsvd16 (saField _) (rdField _) (rtField _) (elemField _)) = _
  rw [saField_formatV, rdField_formatV, rtField_formatV, elemField_formatV]

theorem decode_vrsvd17 (e : Elem) (vt vs vd : Reg) :
    decode (formatV e vt vs vd 0x17) = .ok (.vrsvd17 vd vs vt e) := by
  rw [decode_vector (opField_formatV ..) (bit25_formatV ..), decodeVector, functField_formatV]
  show Except.ok (Instr.vrsvd17 (saField _) (rdField _) (rtField _) (elemField _)) = _
  rw [saField_formatV, rdField_formatV, rtField_formatV, elemField_formatV]

theorem decode_vrsvd18 (e : Elem) (vt vs vd : Reg) :
    decode (formatV e vt vs vd 0x18) = .ok (.vrsvd18 vd vs vt e) := by
  rw [decode_vector (opField_formatV ..) (bit25_formatV ..), decodeVector, functField_formatV]
  show Except.ok (Instr.vrsvd18 (saField _) (rdField _) (rtField _) (elemField _)) = _
  rw [saField_formatV, rdField_formatV, rtField_formatV, elemField_formatV]

theorem decode_vrsvd19 (e : Elem) (vt vs vd : Reg) :
    decode (formatV e vt vs vd 0x19) = .ok (.vrsvd19 vd vs vt e) := by
  rw [decode_vector (opField_formatV ..) (bit25_formatV ..), decodeVector, functField_formatV]
  show Except.ok (Instr.vrsvd19 (saField _) (rdField _) (rtField _) (elemField _)) = _
  rw [saField_formatV, rdField_formatV, rtField_formatV, elemField_formatV]

theorem decode_vrsvd1a (e : Elem) (vt vs vd : Reg) :
    decode (formatV e vt vs vd 0x1A) = .ok (.vrsvd1a vd vs vt e) := by
  rw [decode_vector (opField_formatV ..) (bit25_formatV ..), decodeVector, functField_formatV]
  show Except.ok (Instr.vrsvd1a (saField _) (rdField _) (rtField _) (elemField _)) = _
  rw [saField_formatV, rdField_formatV, rtField_formatV, elemField_formatV]

theorem decode_vrsvd1b (e : Elem) (vt vs vd : Reg) :
    decode (formatV e vt vs vd 0x1B) = .ok (.vrsvd1b vd vs vt e) := by
  rw [decode_vector (opField_formatV ..) (bit25_formatV ..), decodeVector, functField_formatV]
  show Except.ok (Instr.vrsvd1b (saField _) (rdField _) (rtField _) (elemField _)) = _
  rw [saField_formatV, rdField_formatV, rtField_formatV, elemField_formatV]

theorem decode_vrsvd1c (e : Elem) (vt vs vd : Reg) :
    decode (formatV e vt vs vd 0x1C) = .ok (.vrsvd1c vd vs vt e) := by
  rw [decode_vector (opField_formatV ..) (bit25_formatV ..), decodeVector, functField_formatV]
  show Except.ok (Instr.vrsvd1c (saField _) (rdField _) (rtField _) (elemField _)) = _
  rw [saField_formatV, rdField_formatV, rtField_formatV, elemField_formatV]

theorem decode_vrsvd1e (e : Elem) (vt vs vd : Reg) :
    decode (formatV e vt vs vd 0x1E) = .ok (.vrsvd1e vd vs vt e) := by
  rw [decode_vector (opField_formatV ..) (bit25_formatV ..), decodeVector, functField_formatV]
  show Except.ok (Instr.vrsvd1e (saField _) (rdField _) (rtField _) (elemField _)) = _
  rw [saField_formatV, rdField_formatV, rtField_formatV, elemField_formatV]

theorem decode_vrsvd1f (e : Elem) (vt vs vd : Reg) :
    decode (formatV e vt vs vd 0x1F) = .ok (.vrsvd1f vd vs vt e) := by
  rw [decode_vector (opField_formatV ..) (bit25_formatV ..), decodeVector, functField_formatV]
  show Except.ok (Instr.vrsvd1f (saField _) (rdField _) (rtField _) (elemField _)) = _
  rw [saField_formatV, rdField_formatV, rtField_formatV, elemField_formatV]

theorem decode_vrsvd2e (e : Elem) (vt vs vd : Reg) :
    decode (formatV e vt vs vd 0x2E) = .ok (.vrsvd2e vd vs vt e) := by
  rw [decode_vector (opField_formatV ..) (bit25_formatV ..), decodeVector, functField_formatV]
  show Except.ok (Instr.vrsvd2e (saField _) (rdField _) (rtField _) (elemField _)) = _
  rw [saField_formatV, rdField_formatV, rtField_formatV, elemField_formatV]

theorem decode_vrsvd2f (e : Elem) (vt vs vd : Reg) :
    decode (formatV e vt vs vd 0x2F) = .ok (.vrsvd2f vd vs vt e) := by
  rw [decode_vector (opField_formatV ..) (bit25_formatV ..), decodeVector, functField_formatV]
  show Except.ok (Instr.vrsvd2f (saField _) (rdField _) (rtField _) (elemField _)) = _
  rw [saField_formatV, rdField_formatV, rtField_formatV, elemField_formatV]

theorem decode_vrsvd38 (e : Elem) (vt vs vd : Reg) :
    decode (formatV e vt vs vd 0x38) = .ok (.vrsvd38 vd vs vt e) := by
  rw [decode_vector (opField_formatV ..) (bit25_formatV ..), decodeVector, functField_formatV]
  show Except.ok (Instr.vrsvd38 (saField _) (rdField _) (rtField _) (elemField _)) = _
  rw [saField_formatV, rdField_formatV, rtField_formatV, elemField_formatV]

theorem decode_vrsvd39 (e : Elem) (vt vs vd : Reg) :
    decode (formatV e vt vs vd 0x39) = .ok (.vrsvd39 vd vs vt e) := by
  rw [decode_vector (opField_formatV ..) (bit25_formatV ..), decodeVector, functField_formatV]
  show Except.ok (Instr.vrsvd39 (saField _) (rdField _) (rtField _) (elemField _)) = _
  rw [saField_formatV, rdField_formatV, rtField_formatV, elemField_formatV]

theorem decode_vrsvd3a (e : Elem) (vt vs vd : Reg) :
    decode (formatV e vt vs vd 0x3A) = .ok (.vrsvd3a vd vs vt e) := by
  rw [decode_vector (opField_formatV ..) (bit25_formatV ..), decodeVector, functField_formatV]
  show Except.ok (Instr.vrsvd3a (saField _) (rdField _) (rtField _) (elemField _)) = _
  rw [saField_formatV, rdField_formatV, rtField_formatV, elemField_formatV]

theorem decode_vrsvd3b (e : Elem) (vt vs vd : Reg) :
    decode (formatV e vt vs vd 0x3B) = .ok (.vrsvd3b vd vs vt e) := by
  rw [decode_vector (opField_formatV ..) (bit25_formatV ..), decodeVector, functField_formatV]
  show Except.ok (Instr.vrsvd3b (saField _) (rdField _) (rtField _) (elemField _)) = _
  rw [saField_formatV, rdField_formatV, rtField_formatV, elemField_formatV]

theorem decode_vrsvd3c (e : Elem) (vt vs vd : Reg) :
    decode (formatV e vt vs vd 0x3C) = .ok (.vrsvd3c vd vs vt e) := by
  rw [decode_vector (opField_formatV ..) (bit25_formatV ..), decodeVector, functField_formatV]
  show Except.ok (Instr.vrsvd3c (saField _) (rdField _) (rtField _) (elemField _)) = _
  rw [saField_formatV, rdField_formatV, rtField_formatV, elemField_formatV]

theorem decode_vrsvd3d (e : Elem) (vt vs vd : Reg) :
    decode (formatV e vt vs vd 0x3D) = .ok (.vrsvd3d vd vs vt e) := by
  rw [decode_vector (opField_formatV ..) (bit25_formatV ..), decodeVector, functField_formatV]
  show Except.ok (Instr.vrsvd3d (saField _) (rdField _) (rtField _) (elemField _)) = _
  rw [saField_formatV, rdField_formatV, rtField_formatV, elemField_formatV]

theorem decode_vrsvd3e (e : Elem) (vt vs vd : Reg) :
    decode (formatV e vt vs vd 0x3E) = .ok (.vrsvd3e vd vs vt e) := by
  rw [decode_vector (opField_formatV ..) (bit25_formatV ..), decodeVector, functField_formatV]
  show Except.ok (Instr.vrsvd3e (saField _) (rdField _) (rtField _) (elemField _)) = _
  rw [saField_formatV, rdField_formatV, rtField_formatV, elemField_formatV]

/-! ### Vector compare, clip and merge (46_vector_compare_select.md) -/

theorem decode_vlt (e : Elem) (vt vs vd : Reg) :
    decode (formatV e vt vs vd 0x20) = .ok (.vlt vd vs vt e) := by
  rw [decode_vector (opField_formatV ..) (bit25_formatV ..), decodeVector, functField_formatV]
  show Except.ok (Instr.vlt (saField _) (rdField _) (rtField _) (elemField _)) = _
  rw [saField_formatV, rdField_formatV, rtField_formatV, elemField_formatV]

theorem decode_veq (e : Elem) (vt vs vd : Reg) :
    decode (formatV e vt vs vd 0x21) = .ok (.veq vd vs vt e) := by
  rw [decode_vector (opField_formatV ..) (bit25_formatV ..), decodeVector, functField_formatV]
  show Except.ok (Instr.veq (saField _) (rdField _) (rtField _) (elemField _)) = _
  rw [saField_formatV, rdField_formatV, rtField_formatV, elemField_formatV]

theorem decode_vne (e : Elem) (vt vs vd : Reg) :
    decode (formatV e vt vs vd 0x22) = .ok (.vne vd vs vt e) := by
  rw [decode_vector (opField_formatV ..) (bit25_formatV ..), decodeVector, functField_formatV]
  show Except.ok (Instr.vne (saField _) (rdField _) (rtField _) (elemField _)) = _
  rw [saField_formatV, rdField_formatV, rtField_formatV, elemField_formatV]

theorem decode_vge (e : Elem) (vt vs vd : Reg) :
    decode (formatV e vt vs vd 0x23) = .ok (.vge vd vs vt e) := by
  rw [decode_vector (opField_formatV ..) (bit25_formatV ..), decodeVector, functField_formatV]
  show Except.ok (Instr.vge (saField _) (rdField _) (rtField _) (elemField _)) = _
  rw [saField_formatV, rdField_formatV, rtField_formatV, elemField_formatV]

theorem decode_vcl (e : Elem) (vt vs vd : Reg) :
    decode (formatV e vt vs vd 0x24) = .ok (.vcl vd vs vt e) := by
  rw [decode_vector (opField_formatV ..) (bit25_formatV ..), decodeVector, functField_formatV]
  show Except.ok (Instr.vcl (saField _) (rdField _) (rtField _) (elemField _)) = _
  rw [saField_formatV, rdField_formatV, rtField_formatV, elemField_formatV]

theorem decode_vch (e : Elem) (vt vs vd : Reg) :
    decode (formatV e vt vs vd 0x25) = .ok (.vch vd vs vt e) := by
  rw [decode_vector (opField_formatV ..) (bit25_formatV ..), decodeVector, functField_formatV]
  show Except.ok (Instr.vch (saField _) (rdField _) (rtField _) (elemField _)) = _
  rw [saField_formatV, rdField_formatV, rtField_formatV, elemField_formatV]

theorem decode_vcr (e : Elem) (vt vs vd : Reg) :
    decode (formatV e vt vs vd 0x26) = .ok (.vcr vd vs vt e) := by
  rw [decode_vector (opField_formatV ..) (bit25_formatV ..), decodeVector, functField_formatV]
  show Except.ok (Instr.vcr (saField _) (rdField _) (rtField _) (elemField _)) = _
  rw [saField_formatV, rdField_formatV, rtField_formatV, elemField_formatV]

theorem decode_vmrg (e : Elem) (vt vs vd : Reg) :
    decode (formatV e vt vs vd 0x27) = .ok (.vmrg vd vs vt e) := by
  rw [decode_vector (opField_formatV ..) (bit25_formatV ..), decodeVector, functField_formatV]
  show Except.ok (Instr.vmrg (saField _) (rdField _) (rtField _) (elemField _)) = _
  rw [saField_formatV, rdField_formatV, rtField_formatV, elemField_formatV]

/-! ### Vector single-lane operations (47_vector_single_lane.md) -/

theorem decode_vrcp (e : Elem) (vt de vd : Reg) :
    decode (formatV e vt de vd 0x30) = .ok (.vrcp vd de vt e) := by
  rw [decode_vector (opField_formatV ..) (bit25_formatV ..), decodeVector, functField_formatV]
  show Except.ok (Instr.vrcp (saField _) (rdField _) (rtField _) (elemField _)) = _
  rw [saField_formatV, rdField_formatV, rtField_formatV, elemField_formatV]

theorem decode_vrcpl (e : Elem) (vt de vd : Reg) :
    decode (formatV e vt de vd 0x31) = .ok (.vrcpl vd de vt e) := by
  rw [decode_vector (opField_formatV ..) (bit25_formatV ..), decodeVector, functField_formatV]
  show Except.ok (Instr.vrcpl (saField _) (rdField _) (rtField _) (elemField _)) = _
  rw [saField_formatV, rdField_formatV, rtField_formatV, elemField_formatV]

theorem decode_vrcph (e : Elem) (vt de vd : Reg) :
    decode (formatV e vt de vd 0x32) = .ok (.vrcph vd de vt e) := by
  rw [decode_vector (opField_formatV ..) (bit25_formatV ..), decodeVector, functField_formatV]
  show Except.ok (Instr.vrcph (saField _) (rdField _) (rtField _) (elemField _)) = _
  rw [saField_formatV, rdField_formatV, rtField_formatV, elemField_formatV]

theorem decode_vmov (e : Elem) (vt de vd : Reg) :
    decode (formatV e vt de vd 0x33) = .ok (.vmov vd de vt e) := by
  rw [decode_vector (opField_formatV ..) (bit25_formatV ..), decodeVector, functField_formatV]
  show Except.ok (Instr.vmov (saField _) (rdField _) (rtField _) (elemField _)) = _
  rw [saField_formatV, rdField_formatV, rtField_formatV, elemField_formatV]

theorem decode_vrsq (e : Elem) (vt de vd : Reg) :
    decode (formatV e vt de vd 0x34) = .ok (.vrsq vd de vt e) := by
  rw [decode_vector (opField_formatV ..) (bit25_formatV ..), decodeVector, functField_formatV]
  show Except.ok (Instr.vrsq (saField _) (rdField _) (rtField _) (elemField _)) = _
  rw [saField_formatV, rdField_formatV, rtField_formatV, elemField_formatV]

theorem decode_vrsql (e : Elem) (vt de vd : Reg) :
    decode (formatV e vt de vd 0x35) = .ok (.vrsql vd de vt e) := by
  rw [decode_vector (opField_formatV ..) (bit25_formatV ..), decodeVector, functField_formatV]
  show Except.ok (Instr.vrsql (saField _) (rdField _) (rtField _) (elemField _)) = _
  rw [saField_formatV, rdField_formatV, rtField_formatV, elemField_formatV]

theorem decode_vrsqh (e : Elem) (vt de vd : Reg) :
    decode (formatV e vt de vd 0x36) = .ok (.vrsqh vd de vt e) := by
  rw [decode_vector (opField_formatV ..) (bit25_formatV ..), decodeVector, functField_formatV]
  show Except.ok (Instr.vrsqh (saField _) (rdField _) (rtField _) (elemField _)) = _
  rw [saField_formatV, rdField_formatV, rtField_formatV, elemField_formatV]

theorem decode_vnop (e : Elem) (vt vs vd : Reg) :
    decode (formatV e vt vs vd 0x37) = .ok .vnop := by
  rw [decode_vector (opField_formatV ..) (bit25_formatV ..), decodeVector, functField_formatV]
  rfl

theorem decode_vnull (e : Elem) (vt vs vd : Reg) :
    decode (formatV e vt vs vd 0x3F) = .ok .vnull := by
  rw [decode_vector (opField_formatV ..) (bit25_formatV ..), decodeVector, functField_formatV]
  rfl

/-! ### Vector loads (48_vector_loadstore.md) -/

theorem decode_lbv (base vt : Reg) (e : Elem) (offset : BitVec 7) :
    decode (formatVM 0x32 base vt 0x00 e offset) = .ok (.lbv vt e offset base) := by
  rw [decode_vectorLoad (opField_formatVM ..), decodeVectorLoad, rdField_formatVM]
  show Except.ok (Instr.lbv (rtField _) (byteElemField _) (offsetField _) (rsField _)) = _
  rw [rtField_formatVM, byteElemField_formatVM, offsetField_formatVM, rsField_formatVM]

theorem decode_lsv (base vt : Reg) (e : Elem) (offset : BitVec 7) :
    decode (formatVM 0x32 base vt 0x01 e offset) = .ok (.lsv vt e offset base) := by
  rw [decode_vectorLoad (opField_formatVM ..), decodeVectorLoad, rdField_formatVM]
  show Except.ok (Instr.lsv (rtField _) (byteElemField _) (offsetField _) (rsField _)) = _
  rw [rtField_formatVM, byteElemField_formatVM, offsetField_formatVM, rsField_formatVM]

theorem decode_llv (base vt : Reg) (e : Elem) (offset : BitVec 7) :
    decode (formatVM 0x32 base vt 0x02 e offset) = .ok (.llv vt e offset base) := by
  rw [decode_vectorLoad (opField_formatVM ..), decodeVectorLoad, rdField_formatVM]
  show Except.ok (Instr.llv (rtField _) (byteElemField _) (offsetField _) (rsField _)) = _
  rw [rtField_formatVM, byteElemField_formatVM, offsetField_formatVM, rsField_formatVM]

theorem decode_ldv (base vt : Reg) (e : Elem) (offset : BitVec 7) :
    decode (formatVM 0x32 base vt 0x03 e offset) = .ok (.ldv vt e offset base) := by
  rw [decode_vectorLoad (opField_formatVM ..), decodeVectorLoad, rdField_formatVM]
  show Except.ok (Instr.ldv (rtField _) (byteElemField _) (offsetField _) (rsField _)) = _
  rw [rtField_formatVM, byteElemField_formatVM, offsetField_formatVM, rsField_formatVM]

theorem decode_lqv (base vt : Reg) (e : Elem) (offset : BitVec 7) :
    decode (formatVM 0x32 base vt 0x04 e offset) = .ok (.lqv vt e offset base) := by
  rw [decode_vectorLoad (opField_formatVM ..), decodeVectorLoad, rdField_formatVM]
  show Except.ok (Instr.lqv (rtField _) (byteElemField _) (offsetField _) (rsField _)) = _
  rw [rtField_formatVM, byteElemField_formatVM, offsetField_formatVM, rsField_formatVM]

theorem decode_lrv (base vt : Reg) (e : Elem) (offset : BitVec 7) :
    decode (formatVM 0x32 base vt 0x05 e offset) = .ok (.lrv vt e offset base) := by
  rw [decode_vectorLoad (opField_formatVM ..), decodeVectorLoad, rdField_formatVM]
  show Except.ok (Instr.lrv (rtField _) (byteElemField _) (offsetField _) (rsField _)) = _
  rw [rtField_formatVM, byteElemField_formatVM, offsetField_formatVM, rsField_formatVM]

theorem decode_lpv (base vt : Reg) (e : Elem) (offset : BitVec 7) :
    decode (formatVM 0x32 base vt 0x06 e offset) = .ok (.lpv vt e offset base) := by
  rw [decode_vectorLoad (opField_formatVM ..), decodeVectorLoad, rdField_formatVM]
  show Except.ok (Instr.lpv (rtField _) (byteElemField _) (offsetField _) (rsField _)) = _
  rw [rtField_formatVM, byteElemField_formatVM, offsetField_formatVM, rsField_formatVM]

theorem decode_luv (base vt : Reg) (e : Elem) (offset : BitVec 7) :
    decode (formatVM 0x32 base vt 0x07 e offset) = .ok (.luv vt e offset base) := by
  rw [decode_vectorLoad (opField_formatVM ..), decodeVectorLoad, rdField_formatVM]
  show Except.ok (Instr.luv (rtField _) (byteElemField _) (offsetField _) (rsField _)) = _
  rw [rtField_formatVM, byteElemField_formatVM, offsetField_formatVM, rsField_formatVM]

theorem decode_lhv (base vt : Reg) (e : Elem) (offset : BitVec 7) :
    decode (formatVM 0x32 base vt 0x08 e offset) = .ok (.lhv vt e offset base) := by
  rw [decode_vectorLoad (opField_formatVM ..), decodeVectorLoad, rdField_formatVM]
  show Except.ok (Instr.lhv (rtField _) (byteElemField _) (offsetField _) (rsField _)) = _
  rw [rtField_formatVM, byteElemField_formatVM, offsetField_formatVM, rsField_formatVM]

theorem decode_lfv (base vt : Reg) (e : Elem) (offset : BitVec 7) :
    decode (formatVM 0x32 base vt 0x09 e offset) = .ok (.lfv vt e offset base) := by
  rw [decode_vectorLoad (opField_formatVM ..), decodeVectorLoad, rdField_formatVM]
  show Except.ok (Instr.lfv (rtField _) (byteElemField _) (offsetField _) (rsField _)) = _
  rw [rtField_formatVM, byteElemField_formatVM, offsetField_formatVM, rsField_formatVM]

theorem decode_lwv (base vt : Reg) (e : Elem) (offset : BitVec 7) :
    decode (formatVM 0x32 base vt 0x0A e offset) = .ok (.lwv vt e offset base) := by
  rw [decode_vectorLoad (opField_formatVM ..), decodeVectorLoad, rdField_formatVM]
  show Except.ok (Instr.lwv (rtField _) (byteElemField _) (offsetField _) (rsField _)) = _
  rw [rtField_formatVM, byteElemField_formatVM, offsetField_formatVM, rsField_formatVM]

theorem decode_ltv (base vt : Reg) (e : Elem) (offset : BitVec 7) :
    decode (formatVM 0x32 base vt 0x0B e offset) = .ok (.ltv vt e offset base) := by
  rw [decode_vectorLoad (opField_formatVM ..), decodeVectorLoad, rdField_formatVM]
  show Except.ok (Instr.ltv (rtField _) (byteElemField _) (offsetField _) (rsField _)) = _
  rw [rtField_formatVM, byteElemField_formatVM, offsetField_formatVM, rsField_formatVM]

/-! ### Vector stores (48_vector_loadstore.md) -/

theorem decode_sbv (base vt : Reg) (e : Elem) (offset : BitVec 7) :
    decode (formatVM 0x3A base vt 0x00 e offset) = .ok (.sbv vt e offset base) := by
  rw [decode_vectorStore (opField_formatVM ..), decodeVectorStore, rdField_formatVM]
  show Except.ok (Instr.sbv (rtField _) (byteElemField _) (offsetField _) (rsField _)) = _
  rw [rtField_formatVM, byteElemField_formatVM, offsetField_formatVM, rsField_formatVM]

theorem decode_ssv (base vt : Reg) (e : Elem) (offset : BitVec 7) :
    decode (formatVM 0x3A base vt 0x01 e offset) = .ok (.ssv vt e offset base) := by
  rw [decode_vectorStore (opField_formatVM ..), decodeVectorStore, rdField_formatVM]
  show Except.ok (Instr.ssv (rtField _) (byteElemField _) (offsetField _) (rsField _)) = _
  rw [rtField_formatVM, byteElemField_formatVM, offsetField_formatVM, rsField_formatVM]

theorem decode_slv (base vt : Reg) (e : Elem) (offset : BitVec 7) :
    decode (formatVM 0x3A base vt 0x02 e offset) = .ok (.slv vt e offset base) := by
  rw [decode_vectorStore (opField_formatVM ..), decodeVectorStore, rdField_formatVM]
  show Except.ok (Instr.slv (rtField _) (byteElemField _) (offsetField _) (rsField _)) = _
  rw [rtField_formatVM, byteElemField_formatVM, offsetField_formatVM, rsField_formatVM]

theorem decode_sdv (base vt : Reg) (e : Elem) (offset : BitVec 7) :
    decode (formatVM 0x3A base vt 0x03 e offset) = .ok (.sdv vt e offset base) := by
  rw [decode_vectorStore (opField_formatVM ..), decodeVectorStore, rdField_formatVM]
  show Except.ok (Instr.sdv (rtField _) (byteElemField _) (offsetField _) (rsField _)) = _
  rw [rtField_formatVM, byteElemField_formatVM, offsetField_formatVM, rsField_formatVM]

theorem decode_sqv (base vt : Reg) (e : Elem) (offset : BitVec 7) :
    decode (formatVM 0x3A base vt 0x04 e offset) = .ok (.sqv vt e offset base) := by
  rw [decode_vectorStore (opField_formatVM ..), decodeVectorStore, rdField_formatVM]
  show Except.ok (Instr.sqv (rtField _) (byteElemField _) (offsetField _) (rsField _)) = _
  rw [rtField_formatVM, byteElemField_formatVM, offsetField_formatVM, rsField_formatVM]

theorem decode_srv (base vt : Reg) (e : Elem) (offset : BitVec 7) :
    decode (formatVM 0x3A base vt 0x05 e offset) = .ok (.srv vt e offset base) := by
  rw [decode_vectorStore (opField_formatVM ..), decodeVectorStore, rdField_formatVM]
  show Except.ok (Instr.srv (rtField _) (byteElemField _) (offsetField _) (rsField _)) = _
  rw [rtField_formatVM, byteElemField_formatVM, offsetField_formatVM, rsField_formatVM]

theorem decode_spv (base vt : Reg) (e : Elem) (offset : BitVec 7) :
    decode (formatVM 0x3A base vt 0x06 e offset) = .ok (.spv vt e offset base) := by
  rw [decode_vectorStore (opField_formatVM ..), decodeVectorStore, rdField_formatVM]
  show Except.ok (Instr.spv (rtField _) (byteElemField _) (offsetField _) (rsField _)) = _
  rw [rtField_formatVM, byteElemField_formatVM, offsetField_formatVM, rsField_formatVM]

theorem decode_suv (base vt : Reg) (e : Elem) (offset : BitVec 7) :
    decode (formatVM 0x3A base vt 0x07 e offset) = .ok (.suv vt e offset base) := by
  rw [decode_vectorStore (opField_formatVM ..), decodeVectorStore, rdField_formatVM]
  show Except.ok (Instr.suv (rtField _) (byteElemField _) (offsetField _) (rsField _)) = _
  rw [rtField_formatVM, byteElemField_formatVM, offsetField_formatVM, rsField_formatVM]

theorem decode_shv (base vt : Reg) (e : Elem) (offset : BitVec 7) :
    decode (formatVM 0x3A base vt 0x08 e offset) = .ok (.shv vt e offset base) := by
  rw [decode_vectorStore (opField_formatVM ..), decodeVectorStore, rdField_formatVM]
  show Except.ok (Instr.shv (rtField _) (byteElemField _) (offsetField _) (rsField _)) = _
  rw [rtField_formatVM, byteElemField_formatVM, offsetField_formatVM, rsField_formatVM]

theorem decode_sfv (base vt : Reg) (e : Elem) (offset : BitVec 7) :
    decode (formatVM 0x3A base vt 0x09 e offset) = .ok (.sfv vt e offset base) := by
  rw [decode_vectorStore (opField_formatVM ..), decodeVectorStore, rdField_formatVM]
  show Except.ok (Instr.sfv (rtField _) (byteElemField _) (offsetField _) (rsField _)) = _
  rw [rtField_formatVM, byteElemField_formatVM, offsetField_formatVM, rsField_formatVM]

theorem decode_swv (base vt : Reg) (e : Elem) (offset : BitVec 7) :
    decode (formatVM 0x3A base vt 0x0A e offset) = .ok (.swv vt e offset base) := by
  rw [decode_vectorStore (opField_formatVM ..), decodeVectorStore, rdField_formatVM]
  show Except.ok (Instr.swv (rtField _) (byteElemField _) (offsetField _) (rsField _)) = _
  rw [rtField_formatVM, byteElemField_formatVM, offsetField_formatVM, rsField_formatVM]

theorem decode_stv (base vt : Reg) (e : Elem) (offset : BitVec 7) :
    decode (formatVM 0x3A base vt 0x0B e offset) = .ok (.stv vt e offset base) := by
  rw [decode_vectorStore (opField_formatVM ..), decodeVectorStore, rdField_formatVM]
  show Except.ok (Instr.stv (rtField _) (byteElemField _) (offsetField _) (rsField _)) = _
  rw [rtField_formatVM, byteElemField_formatVM, offsetField_formatVM, rsField_formatVM]

end Sys2Proof
end

