-- ==== Sys2Proof/Laws/PerInstr.lean ====
section
/-! SUPPORT. A statement about every instruction as syntax, one lemma per constructor: the word the encoder writes
belongs to the instruction's row of the opcode table (R123). -/

namespace Sys2Proof

/-! ### A word built by a format, under the masks of the opcode table -/

theorem and_join {m n : Nat} {x y z : BitVec m} {x' y' z' : BitVec n} (h : x &&& y = z) (h' : x' &&& y' = z') :
    (x ++ x') &&& (y ++ y') = z ++ z' := by
  rw [BitVec.and_append, h, h']

theorem and_none {n : Nat} (x : BitVec n) : x &&& 0#n = 0#n := BitVec.and_zero

theorem and_every {n : Nat} (x : BitVec n) : x &&& BitVec.allOnes n = x := BitVec.and_allOnes

theorem covers_of_and {w mask pattern : Word} (h : w &&& mask = pattern) :
    OpcodeRow.covers ⟨mask, pattern⟩ w = true := beq_iff_eq.mpr h

theorem covers_formatR (op funct : BitVec 6) (rs rt rd sa : BitVec 5) :
    OpcodeRow.covers ⟨0xFC00003F, formatR op 0 0 0 0 funct⟩ (formatR op rs rt rd sa funct) = true :=
  covers_of_and <| show _ &&& formatR 0x3F 0 0 0 0 0x3F = _ from
    and_join (and_join (and_join (and_join (and_join (and_every op) (and_none rs)) (and_none rt)) (and_none rd))
      (and_none sa)) (and_every funct)

theorem covers_formatBreak (code : BitVec 20) :
    OpcodeRow.covers ⟨0xFC00003F, formatBreak 0⟩ (formatBreak code) = true :=
  covers_of_and <| show _ &&& (0x3F#6 ++ 0#20 ++ 0x3F#6 : BitVec 32) = _ from
    and_join (and_join (and_every 0x00#6) (and_none code)) (and_every 0x0D#6)

theorem covers_formatI (op : BitVec 6) (rs rt : BitVec 5) (imm : BitVec 16) :
    OpcodeRow.covers ⟨0xFC000000, formatI op 0 0 0⟩ (formatI op rs rt imm) = true :=
  covers_of_and <| show _ &&& formatI 0x3F 0 0 0 = _ from
    and_join (and_join (and_join (and_every op) (and_none rs)) (and_none rt)) (and_none imm)

theorem covers_formatRegimm (op : BitVec 6) (rs rt : BitVec 5) (imm : BitVec 16) :
    OpcodeRow.covers ⟨0xFC1F0000, formatI op 0 rt 0⟩ (formatI op rs rt imm) = true :=
  covers_of_and <| show _ &&& formatI 0x3F 0 0x1F 0 = _ from
    and_join (and_join (and_join (and_every op) (and_none rs)) (and_every rt)) (and_none imm)

theorem covers_formatJ (op : BitVec 6) (target : BitVec 26) :
    OpcodeRow.covers ⟨0xFC000000, formatJ op 0⟩ (formatJ op target) = true :=
  covers_of_and <| show _ &&& formatJ 0x3F 0 = _ from and_join (and_every op) (and_none target)

theorem covers_formatM (op : BitVec 6) (mv rt rd : BitVec 5) (e : BitVec 4) :
    OpcodeRow.covers ⟨0xFFE00000, formatM op mv 0 0 0⟩ (formatM op mv rt rd e) = true :=
  covers_of_and <| show _ &&& formatM 0x3F 0x1F 0 0 0 = _ from
    and_join (and_join (and_join (and_join (and_join (and_every op) (and_every mv)) (and_none rt)) (and_none rd))
      (and_none e)) (and_none 0#7)

theorem covers_formatV (e : BitVec 4) (vt vs vd : BitVec 5) (funct : BitVec 6) :
    OpcodeRow.covers ⟨0xFE00003F, formatV 0 0 0 0 funct⟩ (formatV e vt vs vd funct) = true :=
  covers_of_and <|
    show _ &&& (0x3F#6 ++ 1#1 ++ 0#4 ++ 0#5 ++ 0#5 ++ 0#5 ++ 0x3F#6 : BitVec 32) = _ from
    and_join (and_join (and_join (and_join (and_join (and_join (and_every 0x12#6) (and_every 1#1)) (and_none e))
      (and_none vt)) (and_none vs)) (and_none vd)) (and_every funct)

theorem covers_formatVM (op : BitVec 6) (base vt vop : BitVec 5) (e : BitVec 4) (offset : BitVec 7) :
    OpcodeRow.covers ⟨0xFC00F800, formatVM op 0 0 vop 0 0⟩ (formatVM op base vt vop e offset) = true :=
  covers_of_and <| show _ &&& formatVM 0x3F 0 0 0x1F 0 0 = _ from
    and_join (and_join (and_join (and_join (and_join (and_every op) (and_none base)) (and_none vt)) (and_every vop))
      (and_none e)) (and_none offset)

end Sys2Proof

/-- The encoder's word of an instruction belongs to the instruction's row of the opcode table. -/
def Sys2Proof.Laws.TableRow.Statement (i : Sys2Proof.Instr) : Prop := i.row.covers (Sys2Proof.encode i) = true

open Sys2Proof

/-! ### Scalar register arithmetic, logic and comparison (40_scalar_alu.md) -/

theorem Sys2Proof.Laws.TableRow.add (rd rs rt : Reg) :
    Sys2Proof.Laws.TableRow.Statement (.add rd rs rt) := covers_formatR 0x00 0x20 _ _ _ _

theorem Sys2Proof.Laws.TableRow.addu (rd rs rt : Reg) :
    Sys2Proof.Laws.TableRow.Statement (.addu rd rs rt) := covers_formatR 0x00 0x21 _ _ _ _

theorem Sys2Proof.Laws.TableRow.sub (rd rs rt : Reg) :
    Sys2Proof.Laws.TableRow.Statement (.sub rd rs rt) := covers_formatR 0x00 0x22 _ _ _ _

theorem Sys2Proof.Laws.TableRow.subu (rd rs rt : Reg) :
    Sys2Proof.Laws.TableRow.Statement (.subu rd rs rt) := covers_formatR 0x00 0x23 _ _ _ _

theorem Sys2Proof.Laws.TableRow.and (rd rs rt : Reg) :
    Sys2Proof.Laws.TableRow.Statement (.and rd rs rt) := covers_formatR 0x00 0x24 _ _ _ _

theorem Sys2Proof.Laws.TableRow.or (rd rs rt : Reg) :
    Sys2Proof.Laws.TableRow.Statement (.or rd rs rt) := covers_formatR 0x00 0x25 _ _ _ _

theorem Sys2Proof.Laws.TableRow.xor (rd rs rt : Reg) :
    Sys2Proof.Laws.TableRow.Statement (.xor rd rs rt) := covers_formatR 0x00 0x26 _ _ _ _

theorem Sys2Proof.Laws.TableRow.nor (rd rs rt : Reg) :
    Sys2Proof.Laws.TableRow.Statement (.nor rd rs rt) := covers_formatR 0x00 0x27 _ _ _ _

theorem Sys2Proof.Laws.TableRow.slt (rd rs rt : Reg) :
    Sys2Proof.Laws.TableRow.Statement (.slt rd rs rt) := covers_formatR 0x00 0x2A _ _ _ _

theorem Sys2Proof.Laws.TableRow.sltu (rd rs rt : Reg) :
    Sys2Proof.Laws.TableRow.Statement (.sltu rd rs rt) := covers_formatR 0x00 0x2B _ _ _ _

/-! ### Shifts (40_scalar_alu.md) -/

theorem Sys2Proof.Laws.TableRow.sll (rd rt : Reg) (sa : BitVec 5) :
    Sys2Proof.Laws.TableRow.Statement (.sll rd rt sa) := covers_formatR 0x00 0x00 _ _ _ _

theorem Sys2Proof.Laws.TableRow.srl (rd rt : Reg) (sa : BitVec 5) :
    Sys2Proof.Laws.TableRow.Statement (.srl rd rt sa) := covers_formatR 0x00 0x02 _ _ _ _

theorem Sys2Proof.Laws.TableRow.sra (rd rt : Reg) (sa : BitVec 5) :
    Sys2Proof.Laws.TableRow.Statement (.sra rd rt sa) := covers_formatR 0x00 0x03 _ _ _ _

theorem Sys2Proof.Laws.TableRow.sllv (rd rt rs : Reg) :
    Sys2Proof.Laws.TableRow.Statement (.sllv rd rt rs) := covers_formatR 0x00 0x04 _ _ _ _

theorem Sys2Proof.Laws.TableRow.srlv (rd rt rs : Reg) :
    Sys2Proof.Laws.TableRow.Statement (.srlv rd rt rs) := covers_formatR 0x00 0x06 _ _ _ _

theorem Sys2Proof.Laws.TableRow.srav (rd rt rs : Reg) :
    Sys2Proof.Laws.TableRow.Statement (.srav rd rt rs) := covers_formatR 0x00 0x07 _ _ _ _

/-! ### Immediate forms (40_scalar_alu.md) -/

theorem Sys2Proof.Laws.TableRow.addi (rt rs : Reg) (imm : BitVec 16) :
    Sys2Proof.Laws.TableRow.Statement (.addi rt rs imm) := covers_formatI 0x08 _ _ _

theorem Sys2Proof.Laws.TableRow.addiu (rt rs : Reg) (imm : BitVec 16) :
    Sys2Proof.Laws.TableRow.Statement (.addiu rt rs imm) := covers_formatI 0x09 _ _ _

theorem Sys2Proof.Laws.TableRow.slti (rt rs : Reg) (imm : BitVec 16) :
    Sys2Proof.Laws.TableRow.Statement (.slti rt rs imm) := covers_formatI 0x0A _ _ _

theorem Sys2Proof.Laws.TableRow.sltiu (rt rs : Reg) (imm : BitVec 16) :
    Sys2Proof.Laws.TableRow.Statement (.sltiu rt rs imm) := covers_formatI 0x0B _ _ _

theorem Sys2Proof.Laws.TableRow.andi (rt rs : Reg) (imm : BitVec 16) :
    Sys2Proof.Laws.TableRow.Statement (.andi rt rs imm) := covers_formatI 0x0C _ _ _

theorem Sys2Proof.Laws.TableRow.ori (rt rs : Reg) (imm : BitVec 16) :
    Sys2Proof.Laws.TableRow.Statement (.ori rt rs imm) := covers_formatI 0x0D _ _ _

theorem Sys2Proof.Laws.TableRow.xori (rt rs : Reg) (imm : BitVec 16) :
    Sys2Proof.Laws.TableRow.Statement (.xori rt rs imm) := covers_formatI 0x0E _ _ _

theorem Sys2Proof.Laws.TableRow.lui (rt : Reg) (imm : BitVec 16) :
    Sys2Proof.Laws.TableRow.Statement (.lui rt imm) := covers_formatI 0x0F _ _ _

/-! ### Scalar loads and stores (42_scalar_loadstore.md) -/

theorem Sys2Proof.Laws.TableRow.lb (rt : Reg) (imm : BitVec 16) (base : Reg) :
    Sys2Proof.Laws.TableRow.Statement (.lb rt imm base) := covers_formatI 0x20 _ _ _

theorem Sys2Proof.Laws.TableRow.lh (rt : Reg) (imm : BitVec 16) (base : Reg) :
    Sys2Proof.Laws.TableRow.Statement (.lh rt imm base) := covers_formatI 0x21 _ _ _

theorem Sys2Proof.Laws.TableRow.lw (rt : Reg) (imm : BitVec 16) (base : Reg) :
    Sys2Proof.Laws.TableRow.Statement (.lw rt imm base) := covers_formatI 0x23 _ _ _

theorem Sys2Proof.Laws.TableRow.lbu (rt : Reg) (imm : BitVec 16) (base : Reg) :
    Sys2Proof.Laws.TableRow.Statement (.lbu rt imm base) := covers_formatI 0x24 _ _ _

theorem Sys2Proof.Laws.TableRow.lhu (rt : Reg) (imm : BitVec 16) (base : Reg) :
    Sys2Proof.Laws.TableRow.Statement (.lhu rt imm base) := covers_formatI 0x25 _ _ _

theorem Sys2Proof.Laws.TableRow.lwu (rt : Reg) (imm : BitVec 16) (base : Reg) :
    Sys2Proof.Laws.TableRow.Statement (.lwu rt imm base) := covers_formatI 0x27 _ _ _

theorem Sys2Proof.Laws.TableRow.sb (rt : Reg) (imm : BitVec 16) (base : Reg) :
    Sys2Proof.Laws.TableRow.Statement (.sb rt imm base) := covers_formatI 0x28 _ _ _

theorem Sys2Proof.Laws.TableRow.sh (rt : Reg) (imm : BitVec 16) (base : Reg) :
    Sys2Proof.Laws.TableRow.Statement (.sh rt imm base) := covers_formatI 0x29 _ _ _

theorem Sys2Proof.Laws.TableRow.sw (rt : Reg) (imm : BitVec 16) (base : Reg) :
    Sys2Proof.Laws.TableRow.Statement (.sw rt imm base) := covers_formatI 0x2B _ _ _

/-! ### Jumps and branches (41_scalar_branch.md) -/

theorem Sys2Proof.Laws.TableRow.j (target : BitVec 26) :
    Sys2Proof.Laws.TableRow.Statement (.j target) := covers_formatJ 0x02 _

theorem Sys2Proof.Laws.TableRow.jal (target : BitVec 26) :
    Sys2Proof.Laws.TableRow.Statement (.jal target) := covers_formatJ 0x03 _

theorem Sys2Proof.Laws.TableRow.jr (rs : Reg) :
    Sys2Proof.Laws.TableRow.Statement (.jr rs) := covers_formatR 0x00 0x08 _ _ _ _

theorem Sys2Proof.Laws.TableRow.jalr (rd rs : Reg) :
    Sys2Proof.Laws.TableRow.Statement (.jalr rd rs) := covers_formatR 0x00 0x09 _ _ _ _

theorem Sys2Proof.Laws.TableRow.beq (rs rt : Reg) (imm : BitVec 16) :
    Sys2Proof.Laws.TableRow.Statement (.beq rs rt imm) := covers_formatI 0x04 _ _ _

theorem Sys2Proof.Laws.TableRow.bne (rs rt : Reg) (imm : BitVec 16) :
    Sys2Proof.Laws.TableRow.Statement (.bne rs rt imm) := covers_formatI 0x05 _ _ _

theorem Sys2Proof.Laws.TableRow.blez (rs : Reg) (imm : BitVec 16) :
    Sys2Proof.Laws.TableRow.Statement (.blez rs imm) := covers_formatI 0x06 _ _ _

theorem Sys2Proof.Laws.TableRow.bgtz (rs : Reg) (imm : BitVec 16) :
    Sys2Proof.Laws.TableRow.Statement (.bgtz rs imm) := covers_formatI 0x07 _ _ _

theorem Sys2Proof.Laws.TableRow.bltz (rs : Reg) (imm : BitVec 16) :
    Sys2Proof.Laws.TableRow.Statement (.bltz rs imm) := covers_formatRegimm 0x01 _ 0x00 _

theorem Sys2Proof.Laws.TableRow.bgez (rs : Reg) (imm : BitVec 16) :
    Sys2Proof.Laws.TableRow.Statement (.bgez rs imm) := covers_formatRegimm 0x01 _ 0x01 _

theorem Sys2Proof.Laws.TableRow.bltzal (rs : Reg) (imm : BitVec 16) :
    Sys2Proof.Laws.TableRow.Statement (.bltzal rs imm) := covers_formatRegimm 0x01 _ 0x10 _

theorem Sys2Proof.Laws.TableRow.bgezal (rs : Reg) (imm : BitVec 16) :
    Sys2Proof.Laws.TableRow.Statement (.bgezal rs imm) := covers_formatRegimm 0x01 _ 0x11 _

/-! ### BREAK and the coprocessor moves (43_scalar_cop_moves.md) -/

theorem Sys2Proof.Laws.TableRow.brk (code : BitVec 20) :
    Sys2Proof.Laws.TableRow.Statement (.brk code) := covers_formatBreak _

theorem Sys2Proof.Laws.TableRow.mfc0 (rt rd : Reg) :
    Sys2Proof.Laws.TableRow.Statement (.mfc0 rt rd) := covers_formatM 0x10 0x00 _ _ _

theorem Sys2Proof.Laws.TableRow.mtc0 (rt rd : Reg) :
    Sys2Proof.Laws.TableRow.Statement (.mtc0 rt rd) := covers_formatM 0x10 0x04 _ _ _

theorem Sys2Proof.Laws.TableRow.mfc2 (rt rd : Reg) (e : Elem) :
    Sys2Proof.Laws.TableRow.Statement (.mfc2 rt rd e) := covers_formatM 0x12 0x00 _ _ _

theorem Sys2Proof.Laws.TableRow.mtc2 (rt rd : Reg) (e : Elem) :
    Sys2Proof.Laws.TableRow.Statement (.mtc2 rt rd e) := covers_formatM 0x12 0x04 _ _ _

theorem Sys2Proof.Laws.TableRow.cfc2 (rt rd : Reg) :
    Sys2Proof.Laws.TableRow.Statement (.cfc2 rt rd) := covers_formatM 0x12 0x02 _ _ _

theorem Sys2Proof.Laws.TableRow.ctc2 (rt rd : Reg) :
    Sys2Proof.Laws.TableRow.Statement (.ctc2 rt rd) := covers_formatM 0x12 0x06 _ _ _

/-! ### Vector multiply and multiply-accumulate (44_vector_multiply.md) -/

theorem Sys2Proof.Laws.TableRow.vmulf (vd vs vt : Reg) (e : Elem) :
    Sys2Proof.Laws.TableRow.Statement (.vmulf vd vs vt e) := covers_formatV _ _ _ _ 0x00

theorem Sys2Proof.Laws.TableRow.vmulu (vd vs vt : Reg) (e : Elem) :
    Sys2Proof.Laws.TableRow.Statement (.vmulu vd vs vt e) := covers_formatV _ _ _ _ 0x01

theorem Sys2Proof.Laws.TableRow.vrndp (vd : Reg) (sh : BitVec 1) (vt : Reg) (e : Elem) :
    Sys2Proof.Laws.TableRow.Statement (.vrndp vd sh vt e) := covers_formatV _ _ _ _ 0x02

theorem Sys2Proof.Laws.TableRow.vmulq (vd vs vt : Reg) (e : Elem) :
    Sys2Proof.Laws.TableRow.Statement (.vmulq vd vs vt e) := covers_formatV _ _ _ _ 0x03

theorem Sys2Proof.Laws.TableRow.vmudl (vd vs vt : Reg) (e : Elem) :
    Sys2Proof.Laws.TableRow.Statement (.vmudl vd vs vt e) := covers_formatV _ _ _ _ 0x04

theorem Sys2Proof.Laws.TableRow.vmudm (vd vs vt : Reg) (e : Elem) :
    Sys2Proof.Laws.TableRow.Statement (.vmudm vd vs vt e) := covers_formatV _ _ _ _ 0x05

theorem Sys2Proof.Laws.TableRow.vmudn (vd vs vt : Reg) (e : Elem) :
    Sys2Proof.Laws.TableRow.Statement (.vmudn vd vs vt e) := covers_formatV _ _ _ _ 0x06

theorem Sys2Proof.Laws.TableRow.vmudh (vd vs vt : Reg) (e : Elem) :
    Sys2Proof.Laws.TableRow.Statement (.vmudh vd vs vt e) := covers_formatV _ _ _ _ 0x07

theorem Sys2Proof.Laws.TableRow.vmacf (vd vs vt : Reg) (e : Elem) :
    Sys2Proof.Laws.TableRow.Statement (.vmacf vd vs vt e) := covers_formatV _ _ _ _ 0x08

theorem Sys2Proof.Laws.TableRow.vmacu (vd vs vt : Reg) (e : Elem) :
    Sys2Proof.Laws.TableRow.Statement (.vmacu vd vs vt e) := covers_formatV _ _ _ _ 0x09

theorem Sys2Proof.Laws.TableRow.vrndn (vd : Reg) (sh : BitVec 1) (vt : Reg) (e : Elem) :
    Sys2Proof.Laws.TableRow.Statement (.vrndn vd sh vt e) := covers_formatV _ _ _ _ 0x0A

theorem Sys2Proof.Laws.TableRow.vmacq (vd vs vt : Reg) (e : Elem) :
    Sys2Proof.Laws.TableRow.Statement (.vmacq vd vs vt e) := covers_formatV _ _ _ _ 0x0B

theorem Sys2Proof.Laws.TableRow.vmadl (vd vs vt : Reg) (e : Elem) :
    Sys2Proof.Laws.TableRow.Statement (.vmadl vd vs vt e) := covers_formatV _ _ _ _ 0x0C

theorem Sys2Proof.Laws.TableRow.vmadm (vd vs vt : Reg) (e : Elem) :
    Sys2Proof.Laws.TableRow.Statement (.vmadm vd vs vt e) := covers_formatV _ _ _ _ 0x0D

theorem Sys2Proof.Laws.TableRow.vmadn (vd vs vt : Reg) (e : Elem) :
    Sys2Proof.Laws.TableRow.Statement (.vmadn vd vs vt e) := covers_formatV _ _ _ _ 0x0E

theorem Sys2Proof.Laws.TableRow.vmadh (vd vs vt : Reg) (e : Elem) :
    Sys2Proof.Laws.TableRow.Statement (.vmadh vd vs vt e) := covers_formatV _ _ _ _ 0x0F

/-! ### Vector add, subtract, accumulator read, logic (45_vector_add_logic.md) -/

theorem Sys2Proof.Laws.TableRow.vadd (vd vs vt : Reg) (e : Elem) :
    Sys2Proof.Laws.TableRow.Statement (.vadd vd vs vt e) := covers_formatV _ _ _ _ 0x10

theorem Sys2Proof.Laws.TableRow.vsub (vd vs vt : Reg) (e : Elem) :
    Sys2Proof.Laws.TableRow.Statement (.vsub vd vs vt e) := covers_formatV _ _ _ _ 0x11

theorem Sys2Proof.Laws.TableRow.vabs (vd vs vt : Reg) (e : Elem) :
    Sys2Proof.Laws.TableRow.Statement (.vabs vd vs vt e) := covers_formatV _ _ _ _ 0x13

theorem Sys2Proof.Laws.TableRow.vaddc (vd vs vt : Reg) (e : Elem) :
    Sys2Proof.Laws.TableRow.Statement (.vaddc vd vs vt e) := covers_formatV _ _ _ _ 0x14

theorem Sys2Proof.Laws.TableRow.vsubc (vd vs vt : Reg) (e : Elem) :
    Sys2Proof.Laws.TableRow.Statement (.vsubc vd vs vt e) := covers_formatV _ _ _ _ 0x15

theorem Sys2Proof.Laws.TableRow.vsar (vd : Reg) (e : Elem) :
    Sys2Proof.Laws.TableRow.Statement (.vsar vd e) := covers_formatV _ _ _ _ 0x1D

theorem Sys2Proof.Laws.TableRow.vand (vd vs vt : Reg) (e : Elem) :
    Sys2Proof.Laws.TableRow.Statement (.vand vd vs vt e) := covers_formatV _ _ _ _ 0x28

theorem Sys2Proof.Laws.TableRow.vnand (vd vs vt : Reg) (e : Elem) :
    Sys2Proof.Laws.TableRow.Statement (.vnand vd vs vt e) := covers_formatV _ _ _ _ 0x29

theorem Sys2Proof.Laws.TableRow.vor (vd vs vt : Reg) (e : Elem) :
    Sys2Proof.Laws.TableRow.Statement (.vor vd vs vt e) := covers_formatV _ _ _ _ 0x2A

theorem Sys2Proof.Laws.TableRow.vnor (vd vs vt : Reg) (e : Elem) :
    Sys2Proof.Laws.TableRow.Statement (.vnor vd vs vt e) := covers_formatV _ _ _ _ 0x2B

theorem Sys2Proof.Laws.TableRow.vxor (vd vs vt : Reg) (e : Elem) :
    Sys2Proof.Laws.TableRow.Statement (.vxor vd vs vt e) := covers_formatV _ _ _ _ 0x2C

theorem Sys2Proof.Laws.TableRow.vnxor (vd vs vt : Reg) (e : Elem) :
    Sys2Proof.Laws.TableRow.Statement (.vnxor vd vs vt e) := covers_formatV _ _ _ _ 0x2D

/-! ### Reserved vector opcodes (45_vector_add_logic.md R295) -/

theorem Sys2Proof.Laws.TableRow.vrsvd12 (vd vs vt : Reg) (e : Elem) :
    Sys2Proof.Laws.TableRow.Statement (.vrsvd12 vd vs vt e) := covers_formatV _ _ _ _ 0x12

theorem Sys2Proof.Laws.TableRow.vrsvd16 (vd vs vt : Reg) (e : Elem) :
    Sys2Proof.Laws.TableRow.Statement (.vrsvd16 vd vs vt e) := covers_formatV _ _ _ _ 0x16

theorem Sys2Proof.Laws.TableRow.vrsvd17 (vd vs vt : Reg) (e : Elem) :
    Sys2Proof.Laws.TableRow.Statement (.vrsvd17 vd vs vt e) := covers_formatV _ _ _ _ 0x17

theorem Sys2Proof.Laws.TableRow.vrsvd18 (vd vs vt : Reg) (e : Elem) :
    Sys2Proof.Laws.TableRow.Statement (.vrsvd18 vd vs vt e) := covers_formatV _ _ _ _ 0x18

theorem Sys2Proof.Laws.TableRow.vrsvd19 (vd vs vt : Reg) (e : Elem) :
    Sys2Proof.Laws.TableRow.Statement (.vrsvd19 vd vs vt e) := covers_formatV _ _ _ _ 0x19

theorem Sys2Proof.Laws.TableRow.vrsvd1a (vd vs vt : Reg) (e : Elem) :
    Sys2Proof.Laws.TableRow.Statement (.vrsvd1a vd vs vt e) := covers_formatV _ _ _ _ 0x1A

theorem Sys2Proof.Laws.TableRow.vrsvd1b (vd vs vt : Reg) (e : Elem) :
    Sys2Proof.Laws.TableRow.Statement (.vrsvd1b vd vs vt e) := covers_formatV _ _ _ _ 0x1B

theorem Sys2Proof.Laws.TableRow.vrsvd1c (vd vs vt : Reg) (e : Elem) :
    Sys2Proof.Laws.TableRow.Statement (.vrsvd1c vd vs vt e) := covers_formatV _ _ _ _ 0x1C

theorem Sys2Proof.Laws.TableRow.vrsvd1e (vd vs vt : Reg) (e : Elem) :
    Sys2Proof.Laws.TableRow.Statement (.vrsvd1e vd vs vt e) := covers_formatV _ _ _ _ 0x1E

theorem Sys2Proof.Laws.TableRow.vrsvd1f (vd vs vt : Reg) (e : Elem) :
    Sys2Proof.Laws.TableRow.Statement (.vrsvd1f vd vs vt e) := covers_formatV _ _ _ _ 0x1F

theorem Sys2Proof.Laws.TableRow.vrsvd2e (vd vs vt : Reg) (e : Elem) :
    Sys2Proof.Laws.TableRow.Statement (.vrsvd2e vd vs vt e) := covers_formatV _ _ _ _ 0x2E

theorem Sys2Proof.Laws.TableRow.vrsvd2f (vd vs vt : Reg) (e : Elem) :
    Sys2Proof.Laws.TableRow.Statement (.vrsvd2f vd vs vt e) := covers_formatV _ _ _ _ 0x2F

theorem Sys2Proof.Laws.TableRow.vrsvd38 (vd vs vt : Reg) (e : Elem) :
    Sys2Proof.Laws.TableRow.Statement (.vrsvd38 vd vs vt e) := covers_formatV _ _ _ _ 0x38

theorem Sys2Proof.Laws.TableRow.vrsvd39 (vd vs vt : Reg) (e : Elem) :
    Sys2Proof.Laws.TableRow.Statement (.vrsvd39 vd vs vt e) := covers_formatV _ _ _ _ 0x39

theorem Sys2Proof.Laws.TableRow.vrsvd3a (vd vs vt : Reg) (e : Elem) :
    Sys2Proof.Laws.TableRow.Statement (.vrsvd3a vd vs vt e) := covers_formatV _ _ _ _ 0x3A

theorem Sys2Proof.Laws.TableRow.vrsvd3b (vd vs vt : Reg) (e : Elem) :
    Sys2Proof.Laws.TableRow.Statement (.vrsvd3b vd vs vt e) := covers_formatV _ _ _ _ 0x3B

theorem Sys2Proof.Laws.TableRow.vrsvd3c (vd vs vt : Reg) (e : Elem) :
    Sys2Proof.Laws.TableRow.Statement (.vrsvd3c vd vs vt e) := covers_formatV _ _ _ _ 0x3C

theorem Sys2Proof.Laws.TableRow.vrsvd3d (vd vs vt : Reg) (e : Elem) :
    Sys2Proof.Laws.TableRow.Statement (.vrsvd3d vd vs vt e) := covers_formatV _ _ _ _ 0x3D

theorem Sys2Proof.Laws.TableRow.vrsvd3e (vd vs vt : Reg) (e : Elem) :
    Sys2Proof.Laws.TableRow.Statement (.vrsvd3e vd vs vt e) := covers_formatV _ _ _ _ 0x3E

/-! ### Vector compare, clip and merge (46_vector_compare_select.md) -/

theorem Sys2Proof.Laws.TableRow.vlt (vd vs vt : Reg) (e : Elem) :
    Sys2Proof.Laws.TableRow.Statement (.vlt vd vs vt e) := covers_formatV _ _ _ _ 0x20

theorem Sys2Proof.Laws.TableRow.veq (vd vs vt : Reg) (e : Elem) :
    Sys2Proof.Laws.TableRow.Statement (.veq vd vs vt e) := covers_formatV _ _ _ _ 0x21

theorem Sys2Proof.Laws.TableRow.vne (vd vs vt : Reg) (e : Elem) :
    Sys2Proof.Laws.TableRow.Statement (.vne vd vs vt e) := covers_formatV _ _ _ _ 0x22

theorem Sys2Proof.Laws.TableRow.vge (vd vs vt : Reg) (e : Elem) :
    Sys2Proof.Laws.TableRow.Statement (.vge vd vs vt e) := covers_formatV _ _ _ _ 0x23

theorem Sys2Proof.Laws.TableRow.vcl (vd vs vt : Reg) (e : Elem) :
    Sys2Proof.Laws.TableRow.Statement (.vcl vd vs vt e) := covers_formatV _ _ _ _ 0x24

theorem Sys2Proof.Laws.TableRow.vch (vd vs vt : Reg) (e : Elem) :
    Sys2Proof.Laws.TableRow.Statement (.vch vd vs vt e) := covers_formatV _ _ _ _ 0x25

theorem Sys2Proof.Laws.TableRow.vcr (vd vs vt : Reg) (e : Elem) :
    Sys2Proof.Laws.TableRow.Statement (.vcr vd vs vt e) := covers_formatV _ _ _ _ 0x26

theorem Sys2Proof.Laws.TableRow.vmrg (vd vs vt : Reg) (e : Elem) :
    Sys2Proof.Laws.TableRow.Statement (.vmrg vd vs vt e) := covers_formatV _ _ _ _ 0x27

/-! ### Vector single-lane operations (47_vector_single_lane.md) -/

theorem Sys2Proof.Laws.TableRow.vrcp (vd de vt : Reg) (e : Elem) :
    Sys2Proof.Laws.TableRow.Statement (.vrcp vd de vt e) := covers_formatV _ _ _ _ 0x30

theorem Sys2Proof.Laws.TableRow.vrcpl (vd de vt : Reg) (e : Elem) :
    Sys2Proof.Laws.TableRow.Statement (.vrcpl vd de vt e) := covers_formatV _ _ _ _ 0x31

theorem Sys2Proof.Laws.TableRow.vrcph (vd de vt : Reg) (e : Elem) :
    Sys2Proof.Laws.TableRow.Statement (.vrcph vd de vt e) := covers_formatV _ _ _ _ 0x32

theorem Sys2Proof.Laws.TableRow.vmov (vd de vt : Reg) (e : Elem) :
    Sys2Proof.Laws.TableRow.Statement (.vmov vd de vt e) := covers_formatV _ _ _ _ 0x33

theorem Sys2Proof.Laws.TableRow.vrsq (vd de vt : Reg) (e : Elem) :
    Sys2Proof.Laws.TableRow.Statement (.vrsq vd de vt e) := covers_formatV _ _ _ _ 0x34

theorem Sys2Proof.Laws.TableRow.vrsql (vd de vt : Reg) (e : Elem) :
    Sys2Proof.Laws.TableRow.Statement (.vrsql vd de vt e) := covers_formatV _ _ _ _ 0x35

theorem Sys2Proof.Laws.TableRow.vrsqh (vd de vt : Reg) (e : Elem) :
    Sys2Proof.Laws.TableRow.Statement (.vrsqh vd de vt e) := covers_formatV _ _ _ _ 0x36

theorem Sys2Proof.Laws.TableRow.vnop :
    Sys2Proof.Laws.TableRow.Statement .vnop := covers_formatV _ _ _ _ 0x37

theorem Sys2Proof.Laws.TableRow.vnull :
    Sys2Proof.Laws.TableRow.Statement .vnull := covers_formatV _ _ _ _ 0x3F

/-! ### Vector loads (48_vector_loadstore.md) -/

theorem Sys2Proof.Laws.TableRow.lbv (vt : Reg) (e : Elem) (offset : BitVec 7) (base : Reg) :
    Sys2Proof.Laws.TableRow.Statement (.lbv vt e offset base) := covers_formatVM 0x32 _ _ 0x00 _ _

theorem Sys2Proof.Laws.TableRow.lsv (vt : Reg) (e : Elem) (offset : BitVec 7) (base : Reg) :
    Sys2Proof.Laws.TableRow.Statement (.lsv vt e offset base) := covers_formatVM 0x32 _ _ 0x01 _ _

theorem Sys2Proof.Laws.TableRow.llv (vt : Reg) (e : Elem) (offset : BitVec 7) (base : Reg) :
    Sys2Proof.Laws.TableRow.Statement (.llv vt e offset base) := covers_formatVM 0x32 _ _ 0x02 _ _

theorem Sys2Proof.Laws.TableRow.ldv (vt : Reg) (e : Elem) (offset : BitVec 7) (base : Reg) :
    Sys2Proof.Laws.TableRow.Statement (.ldv vt e offset base) := covers_formatVM 0x32 _ _ 0x03 _ _

theorem Sys2Proof.Laws.TableRow.lqv (vt : Reg) (e : Elem) (offset : BitVec 7) (base : Reg) :
    Sys2Proof.Laws.TableRow.Statement (.lqv vt e offset base) := covers_formatVM 0x32 _ _ 0x04 _ _

theorem Sys2Proof.Laws.TableRow.lrv (vt : Reg) (e : Elem) (offset : BitVec 7) (base : Reg) :
    Sys2Proof.Laws.TableRow.Statement (.lrv vt e offset base) := covers_formatVM 0x32 _ _ 0x05 _ _

theorem Sys2Proof.Laws.TableRow.lpv (vt : Reg) (e : Elem) (offset : BitVec 7) (base : Reg) :
    Sys2Proof.Laws.TableRow.Statement (.lpv vt e offset base) := covers_formatVM 0x32 _ _ 0x06 _ _

theorem Sys2Proof.Laws.TableRow.luv (vt : Reg) (e : Elem) (offset : BitVec 7) (base : Reg) :
    Sys2Proof.Laws.TableRow.Statement (.luv vt e offset base) := covers_formatVM 0x32 _ _ 0x07 _ _

theorem Sys2Proof.Laws.TableRow.lhv (vt : Reg) (e : Elem) (offset : BitVec 7) (base : Reg) :
    Sys2Proof.Laws.TableRow.Statement (.lhv vt e offset base) := covers_formatVM 0x32 _ _ 0x08 _ _

theorem Sys2Proof.Laws.TableRow.lfv (vt : Reg) (e : Elem) (offset : BitVec 7) (base : Reg) :
    Sys2Proof.Laws.TableRow.Statement (.lfv vt e offset base) := covers_formatVM 0x32 _ _ 0x09 _ _

theorem Sys2Proof.Laws.TableRow.lwv (vt : Reg) (e : Elem) (offset : BitVec 7) (base : Reg) :
    Sys2Proof.Laws.TableRow.Statement (.lwv vt e offset base) := covers_formatVM 0x32 _ _ 0x0A _ _

theorem Sys2Proof.Laws.TableRow.ltv (vt : Reg) (e : Elem) (offset : BitVec 7) (base : Reg) :
    Sys2Proof.Laws.TableRow.Statement (.ltv vt e offset base) := covers_formatVM 0x32 _ _ 0x0B _ _

/-! ### Vector stores (48_vector_loadstore.md) -/

theorem Sys2Proof.Laws.TableRow.sbv (vt : Reg) (e : Elem) (offset : BitVec 7) (base : Reg) :
    Sys2Proof.Laws.TableRow.Statement (.sbv vt e offset base) := covers_formatVM 0x3A _ _ 0x00 _ _

theorem Sys2Proof.Laws.TableRow.ssv (vt : Reg) (e : Elem) (offset : BitVec 7) (base : Reg) :
    Sys2Proof.Laws.TableRow.Statement (.ssv vt e offset base) := covers_formatVM 0x3A _ _ 0x01 _ _

theorem Sys2Proof.Laws.TableRow.slv (vt : Reg) (e : Elem) (offset : BitVec 7) (base : Reg) :
    Sys2Proof.Laws.TableRow.Statement (.slv vt e offset base) := covers_formatVM 0x3A _ _ 0x02 _ _

theorem Sys2Proof.Laws.TableRow.sdv (vt : Reg) (e : Elem) (offset : BitVec 7) (base : Reg) :
    Sys2Proof.Laws.TableRow.Statement (.sdv vt e offset base) := covers_formatVM 0x3A _ _ 0x03 _ _

theorem Sys2Proof.Laws.TableRow.sqv (vt : Reg) (e : Elem) (offset : BitVec 7) (base : Reg) :
    Sys2Proof.Laws.TableRow.Statement (.sqv vt e offset base) := covers_formatVM 0x3A _ _ 0x04 _ _

theorem Sys2Proof.Laws.TableRow.srv (vt : Reg) (e : Elem) (offset : BitVec 7) (base : Reg) :
    Sys2Proof.Laws.TableRow.Statement (.srv vt e offset base) := covers_formatVM 0x3A _ _ 0x05 _ _

theorem Sys2Proof.Laws.TableRow.spv (vt : Reg) (e : Elem) (offset : BitVec 7) (base : Reg) :
    Sys2Proof.Laws.TableRow.Statement (.spv vt e offset base) := covers_formatVM 0x3A _ _ 0x06 _ _

theorem Sys2Proof.Laws.TableRow.suv (vt : Reg) (e : Elem) (offset : BitVec 7) (base : Reg) :
    Sys2Proof.Laws.TableRow.Statement (.suv vt e offset base) := covers_formatVM 0x3A _ _ 0x07 _ _

theorem Sys2Proof.Laws.TableRow.shv (vt : Reg) (e : Elem) (offset : BitVec 7) (base : Reg) :
    Sys2Proof.Laws.TableRow.Statement (.shv vt e offset base) := covers_formatVM 0x3A _ _ 0x08 _ _

theorem Sys2Proof.Laws.TableRow.sfv (vt : Reg) (e : Elem) (offset : BitVec 7) (base : Reg) :
    Sys2Proof.Laws.TableRow.Statement (.sfv vt e offset base) := covers_formatVM 0x3A _ _ 0x09 _ _

theorem Sys2Proof.Laws.TableRow.swv (vt : Reg) (e : Elem) (offset : BitVec 7) (base : Reg) :
    Sys2Proof.Laws.TableRow.Statement (.swv vt e offset base) := covers_formatVM 0x3A _ _ 0x0A _ _

theorem Sys2Proof.Laws.TableRow.stv (vt : Reg) (e : Elem) (offset : BitVec 7) (base : Reg) :
    Sys2Proof.Laws.TableRow.Statement (.stv vt e offset base) := covers_formatVM 0x3A _ _ 0x0B _ _
end

