-- ==== Sys2Proof/Tests/Slice0.lean ====
section
/-! SUPPORT. Tests of one step each, their expected results from the examples and tables of the spec
(95_test_vectors.md and the rules, named at each test), and a witness for the hypotheses of every statement that has
any.  The words are written out from the encodings of 30_encoding.md. -/

namespace Sys2Proof.Tests

open Sys2Proof Sys2Proof.Machine

/-! ### Small states -/

/-- Created, then running. -/
def start : State := { State.reset with halted := false }

/-- The engine with these scalar registers set. -/
def withRegs (l : List (Reg × Word)) (s : State := start) : State := l.foldl (fun s p => s.setX p.1 p.2) s

/-- The engine with these bytes of data memory from an address on. -/
def withBytes (a : Word) (l : List Byte) (s : State := start) : State :=
  match l with
  | [] => s
  | b :: rest => withBytes (a + 1) rest (s.putDm a b)

/-- Every lane of `vr[1]` is `a`, every lane of `vr[2]` is `b`. -/
def withOperands (a b : Half) (s : State := start) : State :=
  (s.setVreg 1 (Vector.replicate 8 a)).setVreg 2 (Vector.replicate 8 b)

/-- The state after the next step, which runs the word `w`. -/
def after (w : Nat) (s : State := start) : State :=
  match step (s.withFetchWord 32 w) with
  | .next t => t
  | _ => State.reset

/-- The state after one instruction. -/
def execNext (i : Instr) (s : State) : State :=
  match exec i s with
  | .next t => t
  | _ => State.reset

/-- Bytes of data memory from an address on. -/
def bytesAt (a : Word) (n : Nat) (s : State) : List Byte := (List.range n).map fun k => s.dm (a + BitVec.ofNat 32 k)

/-- The lanes of a vector register. -/
def lanesOf (r : Reg) (s : State) : List Half := (s.vreg r).toList

/-- Lane 0 of the accumulator and of `vr[3]`. -/
def laneZero (s : State) : AccLane × Half := (s.accLane 0, s.lane 3 0)

/-- Lane 7 of ACC_LO and of `vr[3]`, and the three flag registers. -/
def lowAndFlags (s : State) : Half × Half × BitVec 16 × BitVec 16 × BitVec 8 :=
  ((s.accLane 7).extractLsb' 0 16, s.lane 3 7, s.vco, s.vcc, s.vce)

/-- `DM[i] = i mod 256` for `i` in a range: the table's "dm[i] = i". -/
def counting (a n : Nat) (s : State := start) : State :=
  { s with dmem := (List.range n).map fun i => (a + i, BitVec.ofNat 8 (a + i)) }

/-- The bytes 00 11 22 .. FF in a vector register: the table's `v1s`. -/
def v1s (r : Reg) (s : State := start) : State := s.setVreg r (VReg.ofBits 0x00112233445566778899AABBCCDDEEFF)

/-- Program P6: a jump in the delay slot of another. -/
def twoJumps : State :=
  { start with imem := [(0, 0x08), (1, 0x00), (2, 0x00), (3, 0x04), (4, 0x08), (5, 0x00), (6, 0x00), (7, 0x08)] }

/-! ### Well-formedness: an ill-formed program for each check -/

/-- R474: a control transfer in the delay slot of another is refused. -/
theorem test_slotsFree_refuses : slotsFree [.j 0, .j 0] = false := by decide

/-- R51: 1025 words do not fit in IMEM, and 1024 do. -/
theorem test_fitsImem_refuses :
    fitsImem (List.replicate 1025 .vnop) = false ∧ fitsImem (List.replicate 1024 .vnop) = true :=
  ⟨by rw [fitsImem, List.length_replicate]; rfl, by rw [fitsImem, List.length_replicate]; rfl⟩

/-- A transfer with its slot filled is accepted. -/
theorem test_wellFormedProgram_accepts : wellFormedProgram [.j 0, .vnop, .jr 31, .vnop] = true := by decide


/-! ### Decoding: a word of each family, field by field from R101-R119 -/

/-- Format R: op, rs = 1, rt = 2, rd = 3, sa, funct 0x22. -/
theorem test_decode_scalar :
    decode (0b000000#6 ++ 0b00001#5 ++ 0b00010#5 ++ 0b00011#5 ++ 0b00000#5 ++ 0b100010#6) =
      .ok (.sub 3 1 2) := by rfl


/-- Format R: rt = 2, rd = 3, sa = 31, funct 0x03. -/
theorem test_decode_shift :
    decode (0b000000#6 ++ 0b00000#5 ++ 0b00010#5 ++ 0b00011#5 ++ 0b11111#5 ++ 0b000011#6) =
      .ok (.sra 3 2 31) := by rfl


/-- Format I: op 0x0E, rs = 1, rt = 2. -/
theorem test_decode_immediate :
    decode (0b001110#6 ++ 0b00001#5 ++ 0b00010#5 ++ 0b1111111111111111#16) =
      .ok (.xori 2 1 0xFFFF) := by rfl


/-- Format I: op 0x25, base = 1, rt = 2. -/
theorem test_decode_load :
    decode (0b100101#6 ++ 0b00001#5 ++ 0b00010#5 ++ 0b1000000000000001#16) =
      .ok (.lhu 2 0x8001 1) := by rfl


/-- Format J: op 0x03. -/
theorem test_decode_jump :
    decode (0b000011#6 ++ 0b10000000000000000001000000#26) =
      .ok (.jal 0x2000040) := by rfl


/-- Format REGIMM: rs = 1, operation 0x11 in rt. -/
theorem test_decode_regimm :
    decode (0b000001#6 ++ 0b00001#5 ++ 0b10001#5 ++ 0b0000000000000010#16) =
      .ok (.bgezal 1 2) := by rfl


/-- Format M: op 0x10, mv 0x04, rt = 2, rd = 4. -/
theorem test_decode_cop0 :
    decode (0b010000#6 ++ 0b00100#5 ++ 0b00010#5 ++ 0b00100#5 ++ 0b00000000000#11) =
      .ok (.mtc0 2 4) := by rfl


/-- Format M: op 0x12, mv 0x04, rt = 2, rd = 3, e = 15. -/
theorem test_decode_cop2 :
    decode (0b010010#6 ++ 0b00100#5 ++ 0b00010#5 ++ 0b00011#5 ++ 0b1111#4 ++ 0b0000000#7) =
      .ok (.mtc2 2 3 15) := by rfl


/-- Format V: bit 25, e = 8, vt = 2, vs = 1, vd = 3, funct 0x0E. -/
theorem test_decode_multiply :
    decode (0b010010#6 ++ 0b1#1 ++ 0b1000#4 ++ 0b00010#5 ++ 0b00001#5 ++ 0b00011#5 ++ 0b001110#6) =
      .ok (.vmadn 3 1 2 8) := by rfl


/-- Format V: bit 11 of VRNDN is its shift selector. -/
theorem test_decode_rounding :
    decode (0b010010#6 ++ 0b1#1 ++ 0b0000#4 ++ 0b00010#5 ++ 0b00001#5 ++ 0b00011#5 ++ 0b001010#6) =
      .ok (.vrndn 3 1 2 0) := by rfl


/-- Format V: funct 0x15. -/
theorem test_decode_add :
    decode (0b010010#6 ++ 0b1#1 ++ 0b0011#4 ++ 0b00010#5 ++ 0b00001#5 ++ 0b00011#5 ++ 0b010101#6) =
      .ok (.vsubc 3 1 2 3) := by rfl


/-- Format V: funct 0x26. -/
theorem test_decode_compare :
    decode (0b010010#6 ++ 0b1#1 ++ 0b1111#4 ++ 0b00010#5 ++ 0b00001#5 ++ 0b00011#5 ++ 0b100110#6) =
      .ok (.vcr 3 1 2 15) := by rfl


/-- Format V: funct 0x33, the destination lane 5 in the vs field. -/
theorem test_decode_singleLane :
    decode (0b010010#6 ++ 0b1#1 ++ 0b1010#4 ++ 0b00010#5 ++ 0b00101#5 ++ 0b00011#5 ++ 0b110011#6) =
      .ok (.vmov 3 5 2 10) := by rfl


/-- Format VM: op 0x32, base = 1, vt = 2, vop 5, e = 3, offset -1. -/
theorem test_decode_vectorLoad :
    decode (0b110010#6 ++ 0b00001#5 ++ 0b00010#5 ++ 0b00101#5 ++ 0b0011#4 ++ 0b1111111#7) =
      .ok (.lrv 2 3 0x7F 1) := by rfl


/-- Format VM: op 0x3A, base = 1, vt = 2, vop 11, e = 2, offset 4. -/
theorem test_decode_vectorStore :
    decode (0b111010#6 ++ 0b00001#5 ++ 0b00010#5 ++ 0b01011#5 ++ 0b0010#4 ++ 0b0000100#7) =
      .ok (.stv 2 2 4 1) := by rfl


/-- R120: an unlisted opcode, SPECIAL funct, REGIMM operation, COP0 and COP2 move and vop are ILLEGAL. -/
theorem test_decode_illegal :
    decode 0xFC000000 = .error .illegalPrimary ∧ decode 0x0000000C = .error .illegalSpecialFunct ∧
    decode 0x04020000 = .error .illegalRegimm ∧ decode 0x40200000 = .error .illegalCop0Move ∧
    decode 0x48200000 = .error .illegalCop2Move ∧ decode 0xC8006000 = .error .illegalVectorLoad ∧
    decode 0xE8006000 = .error .illegalVectorStore := ⟨rfl, rfl, rfl, rfl, rfl, rfl, rfl⟩

/-- The host's entry: a table word decodes, an ILLEGAL one does not. -/
theorem test_decodeTableWord :
    decodeTableWord 32 0x00221820 = some (.add 3 1 2) ∧ decodeTableWord 32 0xFC000000 = none := by decide


/-! ### Scalar arithmetic, logic and shifts (95_test_vectors.md S1-S31) -/

/-- S1 -/
theorem test_add : (after 0x00221820 (withRegs [(1, 0x7FFFFFFF), (2, 1)])).x 3 = 0x80000000 := by decide

/-- S6 -/
theorem test_add_source_is_destination :
    (after 0x00210820 (withRegs [(1, 0x40000000)])).x 1 = 0x80000000 := by decide

/-- S2 -/
theorem test_addu : (after 0x00221821 (withRegs [(1, 0xFFFFFFFF), (2, 2)])).x 3 = 1 := by decide

/-- S3 -/
theorem test_sub : (after 0x00221822 (withRegs [(1, 0x80000000), (2, 1)])).x 3 = 0x7FFFFFFF := by decide

/-- S4 -/
theorem test_subu : (after 0x00221823 (withRegs [(1, 0), (2, 1)])).x 3 = 0xFFFFFFFF := by decide

/-- S7 -/
theorem test_and :
    (after 0x00221824 (withRegs [(1, 0xF0F0F0F0), (2, 0xFF00FF00)])).x 3 = 0xF000F000 := by decide

/-- S8 -/
theorem test_or : (after 0x00221825 (withRegs [(1, 0xF0F0F0F0), (2, 0xFF00FF00)])).x 3 = 0xFFF0FFF0 := by decide

/-- S9 -/
theorem test_xor :
    (after 0x00221826 (withRegs [(1, 0xF0F0F0F0), (2, 0xFF00FF00)])).x 3 = 0x0FF00FF0 := by decide

/-- S10 -/
theorem test_nor :
    (after 0x00221827 (withRegs [(1, 0xF0F0F0F0), (2, 0xFF00FF00)])).x 3 = 0x000F000F := by decide

/-- S11 -/
theorem test_slt : (after 0x0022182A (withRegs [(1, 0xFFFFFFFF), (2, 1)])).x 3 = 1 := by decide

/-- S12 -/
theorem test_sltu : (after 0x0022182B (withRegs [(1, 0xFFFFFFFF), (2, 1)])).x 3 = 0 := by decide

/-- S14 -/
theorem test_sll : (after 0x00021FC0 (withRegs [(2, 1)])).x 3 = 0x80000000 := by decide

/-- S16 -/
theorem test_srl : (after 0x00021FC2 (withRegs [(2, 0x80000000)])).x 3 = 1 := by decide

/-- S17 -/
theorem test_sra : (after 0x00021FC3 (withRegs [(2, 0x80000000)])).x 3 = 0xFFFFFFFF := by decide

/-- S19: the amount 33 is taken mod 32 -/
theorem test_sllv : (after 0x00221804 (withRegs [(1, 33), (2, 1)])).x 3 = 2 := by decide

/-- S20 -/
theorem test_srlv : (after 0x00221806 (withRegs [(1, 0xFFFFFFFF), (2, 0x80000000)])).x 3 = 1 := by decide

/-- S21 -/
theorem test_srav : (after 0x00221807 (withRegs [(1, 4), (2, 0x80000000)])).x 3 = 0xF8000000 := by decide

/-- S22 -/
theorem test_addi : (after 0x2022FFFF (withRegs [(1, 0)])).x 2 = 0xFFFFFFFF := by decide

/-- S23 -/
theorem test_addiu : (after 0x2422FFFF (withRegs [(1, 0x80000000)])).x 2 = 0x7FFFFFFF := by decide

/-- S5: a write to register 0 is dropped -/
theorem test_addiu_register_zero : (after 0x24000005 (withRegs [])).x 0 = 0 := by decide

/-- S24 -/
theorem test_slti : (after 0x2822FFFF (withRegs [(1, 0xFFFFFFFE)])).x 2 = 1 := by decide

/-- S25: the immediate is sign-extended, then unsigned -/
theorem test_sltiu : (after 0x2C22FFFF (withRegs [(1, 5)])).x 2 = 1 := by decide

/-- S27 -/
theorem test_andi : (after 0x3022FFFF (withRegs [(1, 0xFFFFFFFF)])).x 2 = 0x0000FFFF := by decide

/-- S28: zero-extended -/
theorem test_ori : (after 0x34228000 (withRegs [(1, 0x00010000)])).x 2 = 0x00018000 := by decide

/-- S29 -/
theorem test_xori : (after 0x3822FFFF (withRegs [(1, 0x0000FF00)])).x 2 = 0x000000FF := by decide

/-- S30 -/
theorem test_lui : (after 0x3C028000 (withRegs [])).x 2 = 0x80000000 := by decide

/-- S31: an ILLEGAL word only advances `pc` and `cycles`. -/
theorem test_illegal_word :
    after 0x00000018 (withRegs [(1, 3), (2, 4)]) =
      { (withRegs [(1, 3), (2, 4)]).withFetchWord 32 0x00000018 with pc := 4, cycles := 1 } := by decide


/-! ### Control transfer (B1-B16) -/

/-- B1 -/
theorem test_beq :
    let t := after 0x10220003 (withRegs [(1, 5), (2, 5)] { start with pc := 0x100 })
    t.pc = 0x104 ∧ t.pend = .slot (some 0x110) := by decide


/-- B2 -/
theorem test_beq_untaken :
    let t := after 0x10220003 (withRegs [(1, 5), (2, 6)] { start with pc := 0x100 })
    t.pc = 0x104 ∧ t.pend = .slot none := by decide


/-- B3 -/
theorem test_bne :
    let t := after 0x1420FFFF (withRegs [(1, 1)] { start with pc := 0x100 })
    t.pc = 0x104 ∧ t.pend = .slot (some 0x100) := by decide


/-- B7 -/
theorem test_blez :
    let t := after 0x18200002 (withRegs [(1, 0x80000000)] { start with pc := 0x100 })
    t.pc = 0x104 ∧ t.pend = .slot (some 0x10C) := by decide


/-- B8 -/
theorem test_bgtz_untaken :
    let t := after 0x1C200002 (withRegs [(1, 0)] { start with pc := 0x100 })
    t.pc = 0x104 ∧ t.pend = .slot none := by decide


/-- B9 -/
theorem test_bltz :
    let t := after 0x04200002 (withRegs [(1, 0xFFFFFFFF)] { start with pc := 0x100 })
    t.pc = 0x104 ∧ t.pend = .slot (some 0x10C) := by decide


/-- B10 -/
theorem test_bgez :
    let t := after 0x04210002 (withRegs [(1, 0)] { start with pc := 0x100 })
    t.pc = 0x104 ∧ t.pend = .slot (some 0x10C) := by decide


/-- B11: the link is written all the same -/
theorem test_bltzal_untaken :
    let t := after 0x04300002 (withRegs [(1, 1)] { start with pc := 0x100 })
    t.pc = 0x104 ∧ t.pend = .slot none ∧ t.x 31 = 0x108 := by decide


/-- B12 -/
theorem test_bgezal :
    let t := after 0x04310002 (withRegs [(1, 1)] { start with pc := 0x100 })
    t.pc = 0x104 ∧ t.pend = .slot (some 0x10C) ∧ t.x 31 = 0x108 := by decide


/-- B13: target bits above the region are dropped -/
theorem test_j :
    let t := after 0x08000440 (withRegs [] { start with pc := 0x0 })
    t.pc = 0x4 ∧ t.pend = .slot (some 0x100) := by decide


/-- B14: the link wraps -/
theorem test_jal :
    let t := after 0x0C000040 (withRegs [] { start with pc := 0xFF8 })
    t.pc = 0xFFC ∧ t.pend = .slot (some 0x100) ∧ t.x 31 = 0 := by decide


/-- B15: the target is masked -/
theorem test_jr :
    let t := after 0x00200008 (withRegs [(1, 0x12345677)] { start with pc := 0x100 })
    t.pc = 0x104 ∧ t.pend = .slot (some 0x674) := by decide


/-- B16: the old value is the target -/
theorem test_jalr :
    let t := after 0x03E0F809 (withRegs [(31, 0x200)] { start with pc := 0x100 })
    t.pc = 0x104 ∧ t.pend = .slot (some 0x200) ∧ t.x 31 = 0x108 := by decide


/-- B5: the target wraps -/
theorem test_beq_backwards :
    let t := after 0x1000FFFE (withRegs [] { start with pc := 0x0 })
    t.pc = 0x4 ∧ t.pend = .slot (some 0xFFC) := by decide


/-- R180, R182 with DELAY_SLOT false: B16 goes to the target at once and links to the next word. -/
theorem test_jalr_without_delay_slot :
    let t := after 0x03E0F809 (withRegs [(31, 0x200)]
      { start with pc := 0x100, cfg := { Config.default with delaySlot := false } })
    t.pc = 0x200 ∧ t.pend = .none ∧ t.x 31 = 0x104 := by decide

/-- R413: the instruction in the slot runs, then the pending target is taken. -/
theorem test_delay_slot_then_target :
    let t := after 0x00221820 (withRegs [(1, 1), (2, 2)] { start with pc := 0x104, pend := .slot (some 0x200) })
    t.x 3 = 3 ∧ t.pc = 0x200 ∧ t.pend = .none := by decide

/-- Program P6: a jump in the slot of another is refused and changes nothing but the mark. -/
theorem test_jump_in_slot_refused :
    let s := ({ start with pc := 4, pend := .slot (some 0x10) }).withFetchWord 32 0x08000008
    hostStep 2 s = ({ s with refused := some .ctiInDelaySlot }, some .ctiInDelaySlot) := by decide

/-- R446: the mark outlives `init`, and a step of the marked engine is refused again. -/
theorem test_mark_survives_init :
    let s := { start with pc := 4, refused := some .ctiInDelaySlot }.init
    hostStep 1 s = (s, some .ctiInDelaySlot) ∧
      (match step s with | .refused r => some r | _ => none) = some .ctiInDelaySlot := by decide


/-! ### Scalar loads and stores (L1-L14) -/

/-- L1 -/
theorem test_lb : (after 0x80020100 (withBytes 0x100 [0x80, 0x01, 0x7F, 0xFF])).x 2 = 0xFFFFFF80 := by decide

/-- L10 -/
theorem test_lb_base_is_destination :
    (after 0x80210100 (withBytes 0x100 [0x80, 0x01, 0x7F, 0xFF])).x 1 = 0xFFFFFF80 := by decide

/-- L2 -/
theorem test_lbu : (after 0x90020100 (withBytes 0x100 [0x80, 0x01, 0x7F, 0xFF])).x 2 = 0x80 := by decide

/-- L3 -/
theorem test_lh : (after 0x84020100 (withBytes 0x100 [0x80, 0x01, 0x7F, 0xFF])).x 2 = 0xFFFF8001 := by decide

/-- L7: no alignment -/
theorem test_lh_odd : (after 0x84020101 (withBytes 0x100 [0x80, 0x01, 0x7F, 0xFF])).x 2 = 0x17F := by decide

/-- L4 -/
theorem test_lhu : (after 0x94020100 (withBytes 0x100 [0x80, 0x01, 0x7F, 0xFF])).x 2 = 0x8001 := by decide

/-- L5 -/
theorem test_lw : (after 0x8C020100 (withBytes 0x100 [0x80, 0x01, 0x7F, 0xFF])).x 2 = 0x80017FFF := by decide

/-- L8: the address wraps at the top of DMEM -/
theorem test_lw_wraps :
    (after 0x8C02FFFF (withBytes 0xFFF [0xAA, 0xBB, 0xCC, 0xDD])).x 2 = 0xAABBCCDD := by decide

/-- L6 -/
theorem test_lwu : (after 0x9C020100 (withBytes 0x100 [0x80, 0x01, 0x7F, 0xFF])).x 2 = 0x80017FFF := by decide

/-- L11, with the bytes after it -/
theorem test_sb :
    bytesAt 0x200 3 (after 0xA0020200 (withRegs [(2, 0x12345678)] (withBytes 0x200 [1, 2, 3, 4, 5]))) =
      [0x78, 2, 3] := by decide

/-- L12 -/
theorem test_sh :
    bytesAt 0x200 3 (after 0xA4020200 (withRegs [(2, 0x12345678)] (withBytes 0x200 [1, 2, 3, 4, 5]))) =
      [0x56, 0x78, 3] := by decide

/-- L13 -/
theorem test_sw :
    bytesAt 0x200 5 (after 0xAC020200 (withRegs [(2, 0x12345678)] (withBytes 0x200 [1, 2, 3, 4, 5]))) =
      [0x12, 0x34, 0x56, 0x78, 5] := by decide

/-- L14 -/
theorem test_sw_wraps :
    bytesAt 0xFFE 5 (after 0xAC02FFFE (withRegs [(2, 0x12345678)] (withBytes 0xFFE [1, 2, 3, 4, 5]))) =
      [0x12, 0x34, 0x56, 0x78, 5] := by decide

/-! ### Coprocessor moves (M1-M19) -/

/-- The `v3` of the table. -/
def v3 : State := start.setVreg 3 (VReg.ofBits 0x00112233800166778899AABBCCDDEEFF)


/-- M1 -/
theorem test_mfc2 : (after 0x48021A00 v3).x 2 = 0xFFFF8001 := by decide

/-- M4 -/
theorem test_mfc2_wraps : (after 0x48021F80 v3).x 2 = 0xFFFFFF00 := by decide

/-- M5: no wrap to byte 0 -/
theorem test_mtc2_last_byte :
    lanesOf 3 (after 0x48821F80 (withRegs [(2, 0x1234)] v3)) =
      [0x0011, 0x2233, 0x8001, 0x6677, 0x8899, 0xAABB, 0xCCDD, 0xEE12] := by decide

/-- M6: across two lanes -/
theorem test_mtc2_odd :
    lanesOf 3 (after 0x48821880 (withRegs [(2, 0xABCD)] v3)) =
      [0x00AB, 0xCD33, 0x8001, 0x6677, 0x8899, 0xAABB, 0xCCDD, 0xEEFF] := by decide

/-- M8: sign-extended -/
theorem test_cfc2 : (after 0x48420000 { start with vco := 0x80FF }).x 2 = 0xFFFF80FF := by decide

/-- M11: 3 is VCE too -/
theorem test_cfc2_vce : (after 0x48421800 { start with vce := 0xA5 }).x 2 = 0xA5 := by decide

/-- M13 -/
theorem test_ctc2 : (after 0x48C20800 (withRegs [(2, 0xFFFFABCD)])).vcc = 0xABCD := by decide

/-- M14 -/
theorem test_ctc2_vce :
    let t := after 0x48C21000 (withRegs [(2, 0xFFFFABCD)]); t.vce = 0xCD ∧ t.vco = 0 := by decide

/-- M16, M18: BREAK and MTC0 only advance. -/
theorem test_break_and_mtc0 :
    after 0x0000000D = { start.withFetchWord 32 0x0000000D with pc := 4, cycles := 1 } ∧
    after 0x40822000 = { start.withFetchWord 32 0x40822000 with pc := 4, cycles := 1 } := by decide

/-- M17: MFC0 gives the next draw, whatever it is. -/
theorem test_mfc0 : (after 0x40022000).x 2 = Config.cop0Read 0 ∧ (after 0x40022000).draws = 1 := ⟨rfl, by decide⟩


/-! ### Vector multiply (V1-V26) -/

/-- V2 -/
theorem test_vmulf :
    laneZero (after 0x4A0208C0 (withOperands 0x8000 0x8000)) = (0x000080008000, 0x7FFF) := by decide

/-- V4 -/
theorem test_vmulu : laneZero (after 0x4A0208C1 (withOperands 0xFFFF 1)) = (0x000000007FFE, 0) := by decide

/-- V5 -/
theorem test_vmulu_clamps :
    laneZero (after 0x4A0208C1 (withOperands 0x8000 0x8000)) = (0x000080008000, 0xFFFF) := by decide

/-- V7 -/
theorem test_vmulq : laneZero (after 0x4A0208C3 (withOperands 0xFFFF 1)) = (0x0000001E0000, 0) := by decide

/-- V8 -/
theorem test_vmulq_clamps :
    laneZero (after 0x4A0208C3 (withOperands 0x8000 0x8000)) = (0x400000000000, 0x7FF0) := by decide

/-- V9 -/
theorem test_vmudl :
    laneZero (after 0x4A0208C4 (withOperands 0xFFFF 0xFFFF)) = (0x00000000FFFE, 0xFFFE) := by decide

/-- V11 -/
theorem test_vmudm :
    laneZero (after 0x4A0208C5 (withOperands 0xFFFF 0xFFFF)) = (0xFFFFFFFF0001, 0xFFFF) := by decide

/-- V13 -/
theorem test_vmudn : laneZero (after 0x4A0208C6 (withOperands 0xFFFF 0xFFFF)) = (0xFFFFFFFF0001, 1) := by decide

/-- V12 -/
theorem test_vmudn_unsigned_source :
    laneZero (after 0x4A0208C6 (withOperands 0x8000 0x0100)) = (0x000000800000, 0) := by decide

/-- V16 -/
theorem test_vmudh :
    laneZero (after 0x4A0208C7 (withOperands 0x0100 0xFF00)) = (0xFFFF00000000, 0x8000) := by decide

/-- V17 -/
theorem test_vrndp :
    laneZero (after 0x4A0208C2 (withOperands 0 1 { start with acc := Vector.replicate 8 0x000000010000 })) =
      (0x000000020000, 2) := by decide

/-- V18 -/
theorem test_vrndn :
    laneZero (after 0x4A0208CA (withOperands 0 1 { start with acc := Vector.replicate 8 0xFFFFFFFF0000 })) =
      (0x000000000000, 0) := by decide

/-- V20: 48-bit wrap -/
theorem test_vmacf :
    laneZero (after 0x4A0208C8 (withOperands 1 1 { start with acc := Vector.replicate 8 0x7FFFFFFFFFFF })) =
      (0x800000000001, 0x8000) := by decide

/-- V21 -/
theorem test_vmacu :
    laneZero (after 0x4A0208C9 (withOperands 0x4000 0x4000 { start with acc := Vector.replicate 8 0x000070000000 })) =
      (0x000090000000, 0xFFFF) := by decide

/-- V22, ACC_LO kept -/
theorem test_vmacq :
    laneZero (after 0x4A0208CB (withOperands 0 0 { start with acc := Vector.replicate 8 0x000000401234 })) =
      (0x000000201234, 0x0010) := by decide

/-- V23 -/
theorem test_vmadl :
    laneZero (after 0x4A0208CC (withOperands 0xFFFF 0xFFFF { start with acc := Vector.replicate 8 0x000000000002 })) =
      (0x000000010000, 0) := by decide

/-- V24 -/
theorem test_vmadm :
    laneZero (after 0x4A0208CD (withOperands 0x0100 0x8000 { start with acc := Vector.replicate 8 0x000000800000 })) =
      (0x000001000000, 0x0100) := by decide

/-- V25 -/
theorem test_vmadn :
    laneZero (after 0x4A0208CE (withOperands 0xFFFF 0x7FFF { start with acc := Vector.replicate 8 0x00007FFF0000 })) =
      (0x0000FFFD8001, 0xFFFF) := by decide

/-- V26 -/
theorem test_vmadh :
    laneZero (after 0x4A0208CF (withOperands 2 3 { start with acc := Vector.replicate 8 0x000000060000 })) =
      (0x0000000C0000, 0x000C) := by decide

/-! ### Vector add, logic, accumulator read, reserved opcodes (A1-A21) -/

/-- A1 -/
theorem test_vadd :
    lowAndFlags (after 0x4A0208D0 (withOperands 0x7FFF 1)) = (0x8000, 0x7FFF, 0, 0, 0) := by decide

/-- A2 -/
theorem test_vadd_carry :
    lowAndFlags (after 0x4A0208D0 (withOperands 0x8000 0x8000 { start with vco := 0x00FF })) =
      (1, 0x8000, 0, 0, 0) := by decide

/-- A3 -/
theorem test_vsub :
    lowAndFlags (after 0x4A0208D1 (withOperands 0 0x8000)) = (0x8000, 0x7FFF, 0, 0, 0) := by decide

/-- A5 -/
theorem test_vsub_borrow :
    lowAndFlags (after 0x4A0208D1 (withOperands 5 7 { start with vco := 0x00FF })) =
      (0xFFFD, 0xFFFD, 0, 0, 0) := by decide

/-- A6 -/
theorem test_vabs :
    lowAndFlags (after 0x4A0208D3 (withOperands 0xFFFD 10)) = (0xFFF6, 0xFFF6, 0, 0, 0) := by decide

/-- A7 -/
theorem test_vabs_saturates :
    lowAndFlags (after 0x4A0208D3 (withOperands 0xFFFF 0x8000)) = (0x8000, 0x7FFF, 0, 0, 0) := by decide

/-- A9 -/
theorem test_vaddc : lowAndFlags (after 0x4A0208D4 (withOperands 0xFFFF 2)) = (1, 1, 0x00FF, 0, 0) := by decide

/-- A10 -/
theorem test_vsubc :
    lowAndFlags (after 0x4A0208D5 (withOperands 1 2)) = (0xFFFF, 0xFFFF, 0xFFFF, 0, 0) := by decide

/-- A12 -/
theorem test_vsar :
    laneZero (after 0x4B2208DD { start with acc := Vector.replicate 8 0x123456789ABC }) =
      (0x123456789ABC, 0x5678) := by decide

/-- A13: e = 0 -/
theorem test_vsar_other_element :
    laneZero (after 0x4A0208DD { start with acc := Vector.replicate 8 0x123456789ABC }) =
      (0x123456789ABC, 0) := by decide

/-- A14 -/
theorem test_vand :
    lowAndFlags (after 0x4A0208E8 (withOperands 0xFF00 0x0FF0)) = (0x0F00, 0x0F00, 0, 0, 0) := by decide

/-- A15 -/
theorem test_vnand :
    lowAndFlags (after 0x4A0208E9 (withOperands 0xFF00 0x0FF0)) = (0xF0FF, 0xF0FF, 0, 0, 0) := by decide

/-- A16 -/
theorem test_vor :
    lowAndFlags (after 0x4A0208EA (withOperands 0xFF00 0x0FF0)) = (0xFFF0, 0xFFF0, 0, 0, 0) := by decide

/-- A17 -/
theorem test_vnor :
    lowAndFlags (after 0x4A0208EB (withOperands 0xFF00 0x0FF0)) = (0x000F, 0x000F, 0, 0, 0) := by decide

/-- A18 -/
theorem test_vxor :
    lowAndFlags (after 0x4A0208EC (withOperands 0xFF00 0x0FF0)) = (0xF0F0, 0xF0F0, 0, 0, 0) := by decide

/-- A19 -/
theorem test_vnxor :
    lowAndFlags (after 0x4A0208ED (withOperands 0xFF00 0x0FF0)) = (0x0F0F, 0x0F0F, 0, 0, 0) := by decide

/-- A20 for each of the 19 reserved words: VZERO. -/
theorem test_reserved_vzero :
    ∀ w ∈ [0x4A0208D2, 0x4A0208D6, 0x4A0208D7, 0x4A0208D8, 0x4A0208D9, 0x4A0208DA, 0x4A0208DB, 0x4A0208DC,
        0x4A0208DE, 0x4A0208DF, 0x4A0208EE, 0x4A0208EF, 0x4A0208F8, 0x4A0208F9, 0x4A0208FA, 0x4A0208FB,
        0x4A0208FC, 0x4A0208FD, 0x4A0208FE],
      lowAndFlags (after w (withOperands 0x7FFF 1 { start with vco := 0xFFFF })) = (0x8000, 0, 0xFFFF, 0, 0) := by decide


/-- A21: with RESERVED_VU = NOP nothing but `pc` and `cycles` changes. -/
theorem test_reserved_nop :
    let s := withOperands 0x7FFF 1 { start with cfg := { Config.default with reservedVu := .nop } }
    after 0x4A0208D2 s = { s.withFetchWord 32 0x4A0208D2 with pc := 4, cycles := 1 } := by decide


/-! ### Vector compare and select (CS1-CS15) -/

/-- CS2 -/
theorem test_vlt :
    lowAndFlags (after 0x4A0208E0 (withOperands 5 5 { start with vco := 0xFFFF })) =
      (5, 5, 0, 0x00FF, 0) := by decide

/-- CS3 -/
theorem test_vlt_equal : lowAndFlags (after 0x4A0208E0 (withOperands 5 5)) = (5, 5, 0, 0, 0) := by decide

/-- CS4 -/
theorem test_veq : lowAndFlags (after 0x4A0208E1 (withOperands 3 3)) = (3, 3, 0, 0x00FF, 0) := by decide

/-- CS5 -/
theorem test_vne : lowAndFlags (after 0x4A0208E2 (withOperands 3 4)) = (3, 3, 0, 0x00FF, 0) := by decide

/-- CS6 -/
theorem test_vge : lowAndFlags (after 0x4A0208E3 (withOperands 5 5)) = (5, 5, 0, 0x00FF, 0) := by decide

/-- CS8 -/
theorem test_vch :
    lowAndFlags (after 0x4A0208E5 (withOperands 0xFFFB 3)) = (0xFFFD, 0xFFFD, 0xFFFF, 0x00FF, 0) := by decide

/-- CS9 -/
theorem test_vch_extension :
    lowAndFlags (after 0x4A0208E5 (withOperands 0xFFFC 3)) = (0xFFFD, 0xFFFD, 0x00FF, 0x00FF, 0xFF) := by decide

/-- CS10 -/
theorem test_vcl : lowAndFlags (after 0x4A0208E4 (withOperands 5 3)) = (3, 3, 0, 0xFF00, 0) := by decide

/-- CS11 -/
theorem test_vcl_carry :
    lowAndFlags (after 0x4A0208E4 (withOperands 0xFFFF 1 { start with vco := 0x00FF })) =
      (0xFFFF, 0xFFFF, 0, 0, 0) := by decide

/-- CS12 -/
theorem test_vcr : lowAndFlags (after 0x4A0208E6 (withOperands 5 3)) = (3, 3, 0, 0xFF00, 0) := by decide

/-- CS13 -/
theorem test_vcr_opposite_signs :
    lowAndFlags (after 0x4A0208E6 (withOperands 0xFFFB 3)) = (0xFFFC, 0xFFFC, 0, 0x00FF, 0) := by decide

/-- CS14 -/
theorem test_vmrg :
    lowAndFlags (after 0x4A0208E7 (withOperands 7 9 { start with vcc := 0x00FF, vco := 0x0F0F })) =
      (7, 7, 0, 0x00FF, 0) := by decide

/-- CS15 with VMRG_CLEARS_VCO = false -/
theorem test_vmrg_keeps_vco :
    lowAndFlags (after 0x4A0208E7 (withOperands 7 9 { start with vco := 0x0F0F, cfg := { Config.default with vmrgClearsVco := false } })) =
      (9, 9, 0x0F0F, 0, 0) := by decide

/-! ### Vector single-lane operations (DV2, DV3, DV17-DV22; the others rest on candidate tables) -/

/-- DV2 -/
theorem test_vrcp_zero :
    let t := after 0x4B0228F0 (withOperands 0 0)
    (t.lane 3 5, t.lane 3 4, t.divOut, t.divDp, t.divIn) =
      (0xFFFF, 0, 0x7FFF, false, 0) := by decide

/-- DV3 -/
theorem test_vrcp_lowest :
    let t := after 0x4B0228F0 (withOperands 0 0x8000)
    (t.lane 3 5, t.lane 3 4, t.divOut, t.divDp, t.divIn) =
      (0, 0, 0xFFFF, false, 0) := by decide

/-- DV17 -/
theorem test_vrcpl :
    let t := after 0x4B0228F1 (withOperands 0 0x8000 { start with divIn := 0xFFFF, divDp := true })
    (t.lane 3 5, t.lane 3 4, t.divOut, t.divDp, t.divIn) =
      (0, 0, 0xFFFF, false, 0xFFFF) := by decide

/-- DV19 -/
theorem test_vrcph :
    let t := after 0x4B0228F2 (withOperands 0 0x1234 { start with divOut := 0x7FFF })
    (t.lane 3 5, t.lane 3 4, t.divOut, t.divDp, t.divIn) =
      (0x7FFF, 0, 0x7FFF, true, 0x1234) := by decide

/-- R347: zero, as DV2 -/
theorem test_vrsq_zero :
    let t := after 0x4B0228F4 (withOperands 0 0)
    (t.lane 3 5, t.lane 3 4, t.divOut, t.divDp, t.divIn) =
      (0xFFFF, 0, 0x7FFF, false, 0) := by decide

/-- R349: DIVDP clear, as VRSQ -/
theorem test_vrsql_single :
    let t := after 0x4B0228F5 (withOperands 0 0x8000 { start with divIn := 0xFFFF })
    (t.lane 3 5, t.lane 3 4, t.divOut, t.divDp, t.divIn) =
      (0, 0, 0xFFFF, false, 0xFFFF) := by decide

/-- DV20 -/
theorem test_vrsqh :
    let t := after 0x4B0228F6 (withOperands 0 0x1234 { start with divOut := 0x7FFF })
    (t.lane 3 5, t.lane 3 4, t.divOut, t.divDp, t.divIn) =
      (0x7FFF, 0, 0x7FFF, true, 0x1234) := by decide

/-- R344, R345: VRCP of 1 has the table entry 0 shifted left 14, whatever the entry; VRCPL of 0x00010000 the same
shifted right 16. -/
theorem test_vrcp_table_entry :
    (after 0x4B0228F0 (withOperands 0 1)).divOut =
      (((0x10000 ||| (Config.rcpRom 0).setWidth 32 : Word) <<< 14) >>> 0 ^^^ 0).extractLsb' 16 16 ∧
    (after 0x4B0228F1 (withOperands 0 0 { start with divIn := 1, divDp := true })).lane 3 5 =
      (((0x10000 ||| (Config.rcpRom 0).setWidth 32 : Word) <<< 14) >>> 16 ^^^ 0).extractLsb' 0 16 := by
  constructor <;> rfl


/-- DV21, with ACC_LO -/
theorem test_vmov :
    let t := after 0x4B4228F3 (start.setVreg 2 #v[10, 11, 12, 13, 14, 15, 16, 17])
    lanesOf 3 t = [0, 0, 0, 0, 0, 12, 0, 0] ∧ (t.accLane 7).extractLsb' 0 16 = 12 := by decide

/-- DV22 and R348: VNOP and VNULL only advance. -/
theorem test_vnop_and_vnull :
    after 0x4A000037 = { start.withFetchWord 32 0x4A000037 with pc := 4, cycles := 1 } ∧
    after 0x4BFFFFFF = { start.withFetchWord 32 0x4BFFFFFF with pc := 4, cycles := 1 } := by decide


/-! ### Vector loads (W1-W12) -/

/-- W1 -/
theorem test_lbv :
    lanesOf 4 (after 0xC8040190 (withBytes 0x10 [0xAB])) = [0, 0xAB, 0, 0, 0, 0, 0, 0] := by decide

/-- W3: only byte 15 -/
theorem test_lsv :
    lanesOf 1 (after 0xC8010F80 (v1s 1 (withBytes 0 [0x5A, 0x77]))) =
      [0x0011, 0x2233, 0x4455, 0x6677, 0x8899, 0xAABB, 0xCCDD, 0xEE5A] := by decide

/-- R373: byte 14 on, cut at byte 15 -/
theorem test_llv :
    lanesOf 1 (after 0xC8011701 (v1s 1 (counting 4 4))) =
      [0x0011, 0x2233, 0x4455, 0x6677, 0x8899, 0xAABB, 0xCCDD, 0x0405] := by decide

/-- W2 -/
theorem test_ldv :
    lanesOf 1 (after 0xC8011C03 (v1s 1 (counting 0x18 8))) =
      [0x0011, 0x2233, 0x4455, 0x6677, 0x1819, 0x1A1B, 0x1C1D, 0x1E1F] := by decide

/-- W4 -/
theorem test_lqv :
    lanesOf 1 (after 0xC8412000 (withRegs [(2, 8)] (v1s 1 (counting 8 16)))) =
      [0x0809, 0x0A0B, 0x0C0D, 0x0E0F, 0x8899, 0xAABB, 0xCCDD, 0xEEFF] := by decide

/-- W5 -/
theorem test_lrv :
    lanesOf 1 (after 0xC8412800 (withRegs [(2, 0x18)] (v1s 1 (counting 0x10 16)))) =
      [0x0011, 0x2233, 0x4455, 0x6677, 0x1011, 0x1213, 0x1415, 0x1617] := by decide

/-- W12: the window passes the top of DMEM -/
theorem test_lpv_wraps :
    lanesOf 1 (after 0xC8413000 (withRegs [(2, 0xFFC)] (withBytes 0xFF8 [0x7F, 0, 0, 0, 0, 0, 0, 0, 0, 1, 2, 3]))) =
      [0, 0, 0, 0, 0, 0x100, 0x200, 0x300] := by decide

/-- W7 -/
theorem test_luv :
    lanesOf 1 (after 0xC8013800 (withBytes 0 [0x80, 0, 0, 0, 0, 0, 0, 0])) =
      [0x4000, 0, 0, 0, 0, 0, 0, 0] := by decide

/-- W8 -/
theorem test_lhv :
    lanesOf 1 (after 0xC8014002 (counting 0x20 16)) =
      [0x1000, 0x1100, 0x1200, 0x1300, 0x1400, 0x1500, 0x1600, 0x1700] := by decide

/-- W9 -/
theorem test_lfv :
    lanesOf 1 (after 0xC8014802 (v1s 1 (counting 0x20 16))) =
      [0x1000, 0x1200, 0x1400, 0x1600, 0x8899, 0xAABB, 0xCCDD, 0xEEFF] := by decide

/-- W10: LWV gives the next draw, whatever it is. -/
theorem test_lwv : (after 0xC8045000).vreg 4 = VReg.ofBits (Config.lwvResult 0) := rfl

/-- W11: one lane of each register of the group. -/
theorem test_ltv :
    let t := after 0xC8085804 (counting 0x40 16)
    ((List.finRange 8).map fun i : Fin 8 => t.lane (8 + BitVec.ofNat 5 i) i) =
      [0x4041, 0x4243, 0x4445, 0x4647, 0x4849, 0x4A4B, 0x4C4D, 0x4E4F] ∧ t.lane 8 1 = 0 := by decide


/-! ### Vector stores (W13-W19) -/

/-- R382, and the byte after -/
theorem test_sbv : bytesAt 0x20 2 (after 0xE80107A0 (v1s 1 (counting 0x20 2))) = [0xFF, 0x21] := by decide

/-- R383: byte 15, then byte 0 -/
theorem test_ssv : bytesAt 0x20 3 (after 0xE8010F90 (v1s 1 (counting 0x20 3))) = [0xFF, 0x00, 0x22] := by decide

/-- R383 -/
theorem test_slv :
    bytesAt 0x20 5 (after 0xE8011708 (v1s 1 (counting 0x20 5))) = [0xEE, 0xFF, 0x00, 0x11, 0x24] := by decide

/-- W19 -/
theorem test_sdv :
    bytesAt 0 8 (after 0xE8011E00 (v1s 1)) = [0xCC, 0xDD, 0xEE, 0xFF, 0x00, 0x11, 0x22, 0x33] := by decide

/-- W13, the first half -/
theorem test_sqv :
    bytesAt 0x108 12 (after 0xE8412000 (withRegs [(2, 0x10C)] (v1s 1 (counting 0x108 16)))) =
      [8, 9, 10, 11, 0x00, 0x11, 0x22, 0x33, 0x10, 0x11, 0x12, 0x13] := by decide

/-- W13, the second half -/
theorem test_srv :
    bytesAt 0x110 13 (after 0xE8412800 (withRegs [(2, 0x11C)] (v1s 1 (counting 0x110 16)))) =
      [0x44, 0x55, 0x66, 0x77, 0x88, 0x99, 0xAA, 0xBB, 0xCC, 0xDD, 0xEE, 0xFF, 0x1C] := by decide

/-- W14 -/
theorem test_spv :
    bytesAt 0 8 (after 0xE8013000 (start.setVreg 1 #v[0x100, 0x200, 0x300, 0x400, 0x500, 0x600, 0x700, 0x800])) =
      [1, 2, 3, 4, 5, 6, 7, 8] := by decide

/-- R387 -/
theorem test_suv :
    bytesAt 0x20 8 (after 0xE8013804 (start.setVreg 1 #v[0x4000, 0x100, 0, 0, 0, 0, 0, 0x8000])) =
      [0x80, 2, 0, 0, 0, 0, 0, 0] := by decide

/-- W18 -/
theorem test_shv :
    bytesAt 0x20 16 (after 0xE8014002 (v1s 1 (withBytes 0x20 (List.replicate 16 0)))) =
      [0x00, 0, 0x44, 0, 0x88, 0, 0xCC, 0, 0x11, 0, 0x55, 0, 0x99, 0, 0xDD, 0] := by decide

/-- W17 -/
theorem test_sfv :
    bytesAt 0x20 16 (after 0xE8014802 (v1s 1 (counting 0x20 16))) =
      [0x00, 0x21, 0x22, 0x23, 0x44, 0x25, 0x26, 0x27, 0x88, 0x29, 0x2A, 0x2B, 0xCC, 0x2D, 0x2E, 0x2F] := by decide

/-- R389: zeros for e = 2 -/
theorem test_sfv_unlisted_element :
    bytesAt 0x20 5 (after 0xE8014902 (v1s 1 (counting 0x20 5))) = [0, 0x21, 0x22, 0x23, 0] := by decide

/-- W15 -/
theorem test_swv :
    bytesAt 0x20 16 (after 0xE8415000 (withRegs [(2, 0x24)] (v1s 1))) =
      [0xCC, 0xDD, 0xEE, 0xFF, 0x00, 0x11, 0x22, 0x33, 0x44, 0x55, 0x66, 0x77, 0x88, 0x99, 0xAA, 0xBB] := by decide

/-- W16 -/
theorem test_stv :
    bytesAt 0x40 16 (after 0xE8085804 ({ start with vr := Vector.ofFn fun r => Vector.ofFn fun j => BitVec.ofNat 16 (0x10 * (r - 7) + j) })) =
      [0x00, 0x10, 0x00, 0x21, 0x00, 0x32, 0x00, 0x43, 0x00, 0x54, 0x00, 0x65, 0x00, 0x76, 0x00, 0x87] := by decide

/-! ### Control loop and host (E1-E8, H1-H6) -/

/-- H1: a halted engine runs nothing. -/
theorem test_halted : hostStep 3 State.reset = (State.reset, none) := by decide

/-- H3: `init` zeroes the registers and keeps memory and `halted`. -/
theorem test_init :
    let s := withRegs [(5, 7)] (withBytes 0 [0x11] { start with pc := 0x40, cycles := 9 })
    s.init = { start with dmem := [(0, 0x11)] } := by decide

/-- E1, H4: a host write to register 0 is dropped. -/
theorem test_setGPR_zero : (start.setGPR 0 0xDEADBEEF).getGPR 0 = 0 := by decide

/-- E2: `pc` wraps at the top of IMEM. -/
theorem test_pc_wraps : (after 0x00000000 { start with pc := 0xFFC }).pc = 0 := by decide

/-- H5: an unaligned `pc` fetches at the word below. -/
theorem test_unaligned_pc :
    let t := after 0x24020001 (start.setPc 0x103)
    t.x 2 = 1 ∧ t.pc = 0x104 := by decide

/-- H6: a host write of `pc` leaves the pending transfer. -/
theorem test_setPc_keeps_pend :
    let t := after 0x00000000 ({ start with pend := .slot (some 0x300) }.setPc 0x200)
    t.pc = 0x300 ∧ t.pend = .none := by decide

/-- E4: the byte remap of the raw buffer. -/
theorem test_remap :
    [0x000, 0x001, 0x002, 0x003, 0x105, 0xFFF].map remap = [0x003, 0x002, 0x001, 0x000, 0x106, 0xFFC] ∧
    (start.writeByte .dmem 0x101 0xAB).rawRead .dmem 0x102 = 0xAB := by decide

/-- E4: the word 0x34081234 in the raw buffer is `34 12 08 34`. -/
theorem test_raw_word :
    let s := start.writeWord .imem 0 0x34081234
    [0, 1, 2, 3].map (s.rawRead .imem) = [0x34, 0x12, 0x08, 0x34] := by decide

/-- P1: the raw scalar region is little-endian within a word. -/
theorem test_raw_scalar :
    let s := withRegs [(8, 0x1234)]
    ([32, 33, 34, 35] : List (Fin 132)).map s.rawScalar = [0x34, 0x12, 0, 0] ∧
    s.setRawScalar 1 5 = none ∧ ((s.setRawScalar 33 0xAB).map fun t => t.x 8) = some 0xAB34 := by decide

/-- R41: lane 0 of a vector register is at offset 14 of its raw bytes, little-endian. -/
theorem test_raw_vector :
    let s := start.writeVectorLane 1 0 0x1234
    [(s.rawVector 30), (s.rawVector 31)] = [0x34, 0x12] := by decide

/-- E8: the document's vector scenario, in lane 7. -/
theorem test_document_vadd :
    let t := after 0x4A020890 (start.setVreg 2 #v[1, 2, 3, 4, 5, 6, 7, 8])
    lanesOf 2 t = [1, 2, 3, 4, 5, 6, 7, 8] ∧ t.accLane 7 = 8 ∧ t.vco = 0 ∧ t.pc = 4 ∧ t.cycles = 1 := by decide


/-! ### Witnesses: states and operands that meet the hypotheses of the statements -/

/-- DecodeFollowsOpcodeTable: a word that decodes, and one that does not. -/
theorem witness_decode :
    decode 0x00221820 = .ok (.add 3 1 2) ∧ decode 0xFC000000 = .error .illegalPrimary := ⟨rfl, rfl⟩

/-- AddressArithmetic: two addresses equal mod 4096. -/
theorem witness_congruent : (0x1100 : Word).toNat % 4096 = (0x100 : Word).toNat % 4096 := by decide

/-- Jumps and Branches: nothing pending, for each value of DELAY_SLOT. -/
theorem witness_nothing_pending :
    start.pend = .none ∧ { start with cfg := { Config.default with delaySlot := false } }.pend = .none :=
  ⟨rfl, rfl⟩

/-- RefusesExactlyTransfersInSlots: a transfer in a slot, a transfer outside, another instruction in a slot. -/
theorem witness_refusals :
    (Instr.isCti (.jr 31) = true ∧ { start with pend := .slot none }.pend ≠ .none) ∧
    ¬(Instr.isCti (.jr 31) = true ∧ start.pend ≠ .none) ∧
    ¬(Instr.isCti .vnop = true ∧ { start with pend := .slot none }.pend ≠ .none) := by decide

/-- RefusedCycleLeavesStateButMark: a refused cycle, a marked state, and a raw scalar write. -/
theorem witness_refused_cycle :
    (let s := ({ start with pc := 4, pend := .slot none }).withFetchWord 32 0x08000008
     s.refused = none ∧ s.halted = false ∧ decode s.fetch = .ok (.j 8) ∧ Instr.isCti (.j 8) = true ∧
       s.pend ≠ .none) ∧
    { start with refused := some .ctiInDelaySlot }.refused = some .ctiInDelaySlot ∧
    ∃ t, start.setRawScalar 131 1 = some t :=
  ⟨⟨rfl, rfl, rfl, rfl, by decide⟩, rfl, _, rfl⟩

/-- DelaySlotRunsBeforeTransfer: taken and untaken with a delay slot, and without delay slots. -/
theorem witness_delay_slot :
    (∃ t u, exec (.j 0x40) start = .next t ∧ start.cfg.delaySlot = true ∧ exec .vnop t = .next u) ∧
    (∃ t u, exec (.bne 0 0 1) start = .next t ∧ exec .vnop t = .next u ∧ t.pend = .slot none) ∧
    (∃ t, exec (.j 0x40) { start with cfg := { Config.default with delaySlot := false } } = .next t) :=
  ⟨⟨_, _, rfl, rfl, rfl⟩, ⟨_, _, rfl, rfl, by decide⟩, ⟨_, rfl⟩⟩

/-- StoredWordReadsBack: each of its clauses, the last at its first and last byte. -/
theorem witness_stored_word :
    ∃ t, exec (.sw 2 0x200 0) (withRegs [(2, 0x12345678)]) = .next t ∧ (3 : Reg) ≠ 0 ∧
      (t.ea 0 0x200 = start.ea 0 0x200 ∧ (execNext (.lw 3 0x200 0) t).x 3 = 0x12345678) ∧
      (t.ea 0 0x200 = start.ea 0 0x200 ∧ (execNext (.lhu 3 0x200 0) t).x 3 = 0x1234) ∧
      (t.ea 0 0x202 = start.ea 0 0x200 + 2 ∧ (execNext (.lhu 3 0x202 0) t).x 3 = 0x5678) ∧
      (t.ea 0 0x200 = start.ea 0 0x200 + BitVec.ofNat 32 0 ∧ (execNext (.lbu 3 0x200 0) t).x 3 = 0x12) ∧
      (t.ea 0 0x203 = start.ea 0 0x200 + BitVec.ofNat 32 3 ∧ (execNext (.lbu 3 0x203 0) t).x 3 = 0x78) :=
  ⟨_, rfl, by decide, by decide, by decide, by decide, by decide, by decide⟩

/-- ReservedVectorOpcodes: a listed opcode, and a state of each value of RESERVED_VU. -/
theorem witness_reserved :
    start.cfg.reservedVu = .vzero ∧
    { start with cfg := { Config.default with reservedVu := .nop } }.cfg.reservedVu = .nop := by decide

/-- DoublePrecisionReciprocal: VRCPH and VRSQH first, another instruction between. -/
theorem witness_double_precision :
    (∃ t u v, exec (.vrcph 4 0 2 8) start = .next t ∧ exec (.add 1 2 3) t = .next u ∧
      Instr.usesDivideUnit (.add 1 2 3) = false ∧ exec (.vrcpl 5 0 2 9) u = .next v) ∧
    (∃ t u v, exec (.vrsqh 4 0 2 8) start = .next t ∧ exec (.vadd 1 2 3 0) t = .next u ∧
      Instr.usesDivideUnit (.vadd 1 2 3 0) = false ∧ exec (.vrcpl 5 0 2 9) u = .next v) :=
  ⟨⟨_, _, _, rfl, rfl, rfl, rfl⟩, ⟨_, _, _, rfl, rfl, rfl, rfl⟩⟩

/-- UnalignedQuadRoundTrip: an unaligned address, and the last offset it allows. -/
theorem witness_unaligned_quad :
    ∀ offset ∈ [(0 : BitVec 7), 0x3E], offset ≠ 0x3F ∧
      ∃ t u v w, exec (.sqv 1 0 offset 2) (withRegs [(2, 0x10C)] (v1s 1)) = .next t ∧
        exec (.srv 1 0 (offset + 1) 2) t = .next u ∧ exec (.lqv 3 0 offset 2) u = .next v ∧
        exec (.lrv 3 0 (offset + 1) 2) v = .next w := by
  intro offset h
  refine ⟨?_, _, _, _, _, rfl, rfl, rfl, rfl⟩
  rcases List.mem_cons.1 h with rfl | h
  · decide
  · rcases List.mem_singleton.1 h with rfl
    decide

/-- Product32By32: the last destination may be a source. -/
theorem witness_product :
    (∀ d ∈ [(5 : Reg), 5, 5], d ≠ 1 ∧ d ≠ 2 ∧ d ≠ 3 ∧ d ≠ 4) ∧
    ∃ t u v w, exec (.vmudl 5 2 4 0) start = .next t ∧ exec (.vmadm 5 1 4 0) t = .next u ∧
      exec (.vmadn 5 2 3 0) u = .next v ∧ exec (.vmadh 1 1 3 0) v = .next w :=
  ⟨by decide, _, _, _, _, rfl, rfl, rfl, rfl⟩

/-- Add32ByCarry. -/
theorem witness_add32 :
    (6 : Reg) ≠ 1 ∧ (6 : Reg) ≠ 3 ∧ (6 : Reg) ≠ 5 ∧
    ∃ t u, exec (.vaddc 6 2 4 0) start = .next t ∧ exec (.vadd 5 1 3 0) t = .next u :=
  ⟨by decide, by decide, by decide, _, _, rfl, rfl⟩

/-- Compare32ByBorrow: its four compares. -/
theorem witness_compare32 :
    (6 : Reg) ≠ 1 ∧ (6 : Reg) ≠ 3 ∧ ∃ t, exec (.vsubc 6 2 4 0) start = .next t ∧
      (∃ u, exec (.vlt 5 1 3 0) t = .next u) ∧ (∃ u, exec (.veq 5 1 3 0) t = .next u) ∧
      (∃ u, exec (.vne 5 1 3 0) t = .next u) ∧ ∃ u, exec (.vge 5 1 3 0) t = .next u :=
  ⟨by decide, by decide, _, rfl, ⟨_, rfl⟩, ⟨_, rfl⟩, ⟨_, rfl⟩, ⟨_, rfl⟩⟩

/-- StepRunsDecodedInstruction: marked, halted, an instruction, an ILLEGAL word. -/
theorem witness_step :
    { start with refused := some .ctiInDelaySlot }.refused = some .ctiInDelaySlot ∧
    (State.reset.refused = none ∧ State.reset.halted = true) ∧
    (let s := start.withFetchWord 32 0x00221820
     s.refused = none ∧ s.halted = false ∧ decodeBytes [s.im 0, s.im 1, s.im 2, s.im 3] = .ok (.add 3 1 2, [])) ∧
    (let s := start.withFetchWord 32 0xFC000000
     s.refused = none ∧ s.halted = false ∧
       decodeBytes [s.im 0, s.im 1, s.im 2, s.im 3] = .error .illegalPrimary) :=
  ⟨rfl, ⟨rfl, rfl⟩, ⟨rfl, rfl, rfl⟩, ⟨rfl, rfl, rfl⟩⟩

/-- PlacedInstructionRunsNext: an unmarked state, and an address in another word, just past the placed one. -/
theorem witness_placed :
    start.refused = none ∧ (4 : Word).toNat % 4096 / 4 ≠ (cyclePc start).toNat / 4 := by decide

/-- EveryStepKeepsInvariant: a state with the invariant, with a transfer pending, and a step. -/
theorem witness_invariant :
    let s := { start with pend := .slot (some 0x100) }.withFetchWord 32 0x00221820
    s.inv = true ∧ ∃ t, step s = .next t := ⟨by decide, _, rfl⟩

/-- ControlAndMemoryOwnership: a store and an instruction that is none. -/
theorem witness_ownership :
    (∃ t, exec (.sw 1 0 0) start = .next t) ∧
    ∃ t, exec (.lw 1 0 0) start = .next t ∧ Instr.isStore (.lw 1 0 0) = false := ⟨⟨_, rfl⟩, _, rfl, rfl⟩

/-- VectorStateOwnership: each of its clauses. -/
theorem witness_vector_ownership :
    (∃ t, exec (.lqv 1 0 0 0) start = .next t ∧ Instr.isVectorComputational (.lqv 1 0 0 0) = false ∧
      (∀ rt rd, Instr.lqv 1 0 0 0 ≠ .ctc2 rt rd) ∧ Instr.usesDivideUnit (.lqv 1 0 0 0) = false ∧
      opField (encode (.lqv 1 0 0 0)) = 0x32) ∧
    (∃ t, exec (.vadd 1 2 3 0) start = .next t ∧ Instr.isVectorComputational (.vadd 1 2 3 0) = true) ∧
    ∃ t, exec (.sqv 1 0 0 0) start = .next t ∧ Instr.isStore (.sqv 1 0 0 0) = true :=
  ⟨⟨_, rfl, by decide, (fun _ _ h => nomatch h), rfl, by decide⟩, ⟨_, rfl, by decide⟩, _, rfl, rfl⟩

/-- HostStepRunsCountCycles: halted, running without a refusal, and refused in the second cycle. -/
theorem witness_host_step :
    (State.reset.refused = none ∧ State.reset.halted = true) ∧
    (let s := start.withFetchWord 32 0x00221820
     s.refused = none ∧ s.halted = false ∧ (hostStep 1 s).2 = none ∧ ∃ t : State, core.run 1 s = .next t) ∧
    (let s := twoJumps
     s.refused = none ∧ (hostStep 2 s).2 ≠ none ∧ core.run 2 s = .refused .ctiInDelaySlot) :=
  ⟨⟨rfl, rfl⟩, ⟨rfl, rfl, by decide, _, rfl⟩, ⟨rfl, by decide, rfl⟩⟩

/-- HostRegisterViews: the first and last raw byte of slot 0 and of the slots above, and an instruction after a write of
`pc` with a transfer pending. -/
theorem witness_register_views :
    ((3 : Fin 132).val < 4 ∧ 4 ≤ (4 : Fin 132).val ∧ 4 ≤ (131 : Fin 132).val) ∧
    Instr.isCti .vnop = false ∧
      ∃ t, exec .vnop ({ start with pend := .slot (some 0x300) }.setPc 0x200) = .next t :=
  ⟨by decide, rfl, _, rfl⟩

/-- RunByAddressEndsAtFirstArrival: at the stop from the start, at the exact bound, one cycle short of it, refused, and
marked. -/
theorem witness_run_by_address :
    (let s := start.withFetchWord 32 0x00221820
     s.refused = none ∧ endByAddress 0 0 s = .ended s ∧
       (∃ t, endByAddress 4 1 s = .ended t) ∧ endByAddress 4 0 s = .notEnded) ∧
    (∃ t, endByAddress 0x20 2 twoJumps = .refused t .ctiInDelaySlot) ∧
    { start with refused := some .ctiInDelaySlot }.refused = some .ctiInDelaySlot :=
  ⟨⟨rfl, rfl, ⟨_, rfl⟩, rfl⟩, ⟨_, rfl⟩, rfl⟩

/-- Assumption log 17: a run whose host-written `pc` fetches at the stop ends there, with `pc` as written. -/
theorem test_run_by_address_unmasked_pc :
    endByAddress 0x1C 5 (start.setPc 0x1E) = .ended (start.setPc 0x1E) := by decide


end Sys2Proof.Tests
end

section
/-! What one cycle may change (10_state.md): every meaning changes the state within the bounds its class of instruction
sets (`Within`), and then its cycle ends by retiring or by transferring control (`Ends`).  The ownership claims and
the invariant of every step are read off these two. -/

namespace Sys2Proof

/-- The vector loads (R372-R381): the instructions of primary opcode LWC2 (R118). -/
def Instr.isVectorLoad : Instr → Bool
  | .lbv _ _ _ _ | .lsv _ _ _ _ | .llv _ _ _ _ | .ldv _ _ _ _ | .lqv _ _ _ _ | .lrv _ _ _ _ | .lpv _ _ _ _
  | .luv _ _ _ _ | .lhv _ _ _ _ | .lfv _ _ _ _ | .lwv _ _ _ _ | .ltv _ _ _ _ => true
  | _ => false

theorem isVectorLoad_of_opField {i : Instr} (h : opField (encode i) = 0x32) : i.isVectorLoad = true := by
  cases i with
  | lbv | lsv | llv | ldv | lqv | lrv | lpv | luv | lhv | lfv | lwv | ltv => rfl
  | _ => simp [encode, formatM] at h

/-- The instructions that leave the scalar registers alone (R32, R228). -/
def Instr.keepsScalar (i : Instr) : Bool := i.isVectorComputational || i.isStore || i.isVectorLoad

end Sys2Proof

namespace Sys2Proof.Machine

/-! ### What a meaning may change before its cycle ends -/

/-- `u` differs from `s` only in what the instruction `i` owns, and nothing the end of a cycle reads or counts has
changed. -/
structure Within (i : Instr) (s u : State) : Prop where
  pc : u.pc = s.pc
  pend : u.pend = s.pend
  cycles : u.cycles = s.cycles
  halted : u.halted = s.halted
  refused : u.refused = s.refused
  cfg : u.cfg = s.cfg
  imem : u.imem = s.imem
  slotZero : u.gpr[0] = s.gpr[0]
  wfDmem : Memory.wf s.dmem = true → Memory.wf u.dmem = true
  dmem : i.isStore = false → u.dmem = s.dmem
  scalar : i.keepsScalar = true → SameScalar s u
  acc : i.isVectorComputational = false → SameAcc s u
  flags : i.isVectorComputational = false → (∀ rt rd, i ≠ .ctc2 rt rd) → SameFlags s u
  divide : i.usesDivideUnit = false → SameDivide s u

variable {i : Instr} {s u : State}

theorem Within.refl (s : State) : Within i s s where
  pc := rfl
  pend := rfl
  cycles := rfl
  halted := rfl
  refused := rfl
  cfg := rfl
  imem := rfl
  slotZero := rfl
  wfDmem h := h
  dmem _ := rfl
  scalar _ _ := rfl
  acc _ _ := rfl
  flags _ _ := ⟨rfl, rfl, rfl⟩
  divide _ := ⟨rfl, rfl, rfl⟩

/-- A scalar register write, by an instruction that may make one; the storage of register 0 is not written (R31). -/
theorem Within.setX (h : Within i s u) (hi : i.keepsScalar = false) (r : Reg) (w : Word) :
    Within i s (u.setX r w) := by
  have hz : (u.setX r w).gpr[0] = s.gpr[0] := (gpr_zero_setX u r w).trans h.slotZero
  by_cases hr : r = 0
  · subst hr
    exact h
  · rw [setX_of_ne_zero u w hr] at hz ⊢
    exact { h with slotZero := hz, scalar := fun hk => absurd hk (by simp [hi]) }

/-- A byte stored to data memory, by a store. -/
theorem Within.putDm (h : Within i s u) (hi : i.isStore = true) (a : Word) (b : Byte) :
    Within i s (u.putDm a b) :=
  { h with
    wfDmem := fun hw => wf_putDm u a b (h.wfDmem hw)
    dmem := fun hs => absurd hi (by simp [hs]) }

/-- A run of bytes stored to data memory, by a store. -/
theorem Within.store (h : Within i s u) (hi : i.isStore = true) (n : Nat) (addr : Nat → Word) (b : Nat → Byte) :
    Within i s (u.store n addr b) := by
  induction n with
  | zero => exact h
  | succ k ih => exact ih.putDm hi (addr k) (b k)

/-- Any write of the vector registers. -/
theorem Within.setVr (h : Within i s u) (vr : Vector VReg 32) : Within i s { u with vr := vr } :=
  { h with }

/-- Any count of draws. -/
theorem Within.setDraws (h : Within i s u) (n : Nat) : Within i s { u with draws := n } :=
  { h with }

/-- Any write of the accumulator, by a vector computational instruction. -/
theorem Within.setAcc (h : Within i s u) (hi : i.isVectorComputational = true) (acc : Vector AccLane 8) :
    Within i s { u with acc := acc } :=
  { h with acc := fun hv => absurd hi (by simp [hv]) }

/-- Any write of the flag registers, by a vector computational instruction. -/
theorem Within.setFlags (h : Within i s u) (hi : i.isVectorComputational = true) (vco vcc : BitVec 16)
    (vce : BitVec 8) : Within i s { u with vco := vco, vcc := vcc, vce := vce } :=
  { h with flags := fun hv => absurd hi (by simp [hv]) }

/-- Any write of the divide state, by one of the six divide instructions. -/
theorem Within.setDivide (h : Within i s u) (hi : i.usesDivideUnit = true) (divIn divOut : Half) (divDp : Bool) :
    Within i s { u with divIn := divIn, divOut := divOut, divDp := divDp } :=
  { h with divide := fun hd => absurd hi (by simp [hd]) }

/-! ### The shared operations -/

theorem Within.setVreg (h : Within i s u) (r : Reg) (w : VReg) : Within i s (u.setVreg r w) := h.setVr _

theorem Within.setAccAndVreg (h : Within i s u) (hi : i.isVectorComputational = true) (vd : Reg)
    (acc : Fin 8 → AccLane) (res : Fin 8 → Half) : Within i s (u.setAccAndVreg vd acc res) :=
  (h.setVreg vd _).setAcc hi _

theorem Within.setLoAndVreg (h : Within i s u) (hi : i.isVectorComputational = true) (vd : Reg)
    (lo res : Fin 8 → Half) : Within i s (u.setLoAndVreg vd lo res) :=
  (h.setVreg vd _).setAcc hi _

theorem Within.setSingleLane (h : Within i s u) (hi : i.isVectorComputational = true) (vd : Reg) (de : BitVec 5)
    (vt : Reg) (e : Elem) (w : Half) : Within i s (u.setSingleLane vd de vt e w) :=
  (h.setVreg vd _).setAcc hi _

theorem Within.reserved (h : Within i s u) (hi : i.isVectorComputational = true) (vd vs vt : Reg) (e : Elem) :
    Within i s (u.reserved vd vs vt e) := by
  unfold State.reserved
  split
  · exact h.setLoAndVreg hi vd _ _
  · exact h

theorem Within.setFlagReg {rt rd : Reg} (h : Within (.ctc2 rt rd) s u) (r : Reg) (w : Word) :
    Within (.ctc2 rt rd) s (u.setFlagReg r w) := by
  unfold State.setFlagReg
  split <;> exact { h with flags := fun _ hc => absurd rfl (hc rt rd) }

/-! ### How the cycle of every instruction ends -/

/-- A region address that is a multiple of 4 (R34). -/
def IsWordAddr (a : RegionAddr) : Prop := a &&& 0xFFC = a

theorem isWordAddr_and (a : RegionAddr) : IsWordAddr (a &&& 0xFFC) := by
  rw [IsWordAddr, BitVec.and_assoc, BitVec.and_self]

/-- What `exec i s` answers: an instruction that is no control transfer changes the state within its bounds and
retires; a control transfer changes it within its bounds and transfers to a word address, or is refused. -/
inductive Ends (i : Instr) (s : State) : Result → Prop where
  | retires {u : State} (hu : Within i s u) (hi : i.isCti = false) : Ends i s (.next u.retire)
  | transfers {u : State} {taken : Bool} {target : RegionAddr} (hu : Within i s u) (hi : i.isCti = true)
      (hp : s.pend = .none) (ht : IsWordAddr target) : Ends i s (.next (u.transfer taken target))
  | refuses {r : Refusal} (hi : i.isCti = true) : Ends i s (.refused r)

/-- A control transfer is refused in a slot, and completes elsewhere (R183). -/
theorem ends_unlessInSlot (hi : i.isCti = true) (hu : Within i s u) (taken : Bool) {target : RegionAddr}
    (ht : IsWordAddr target) : Ends i s (s.unlessInSlot (u.transfer taken target)) := by
  by_cases hp : s.pend = .none
  · rw [unlessInSlot_none hp]
    exact .transfers hu hi hp ht
  · rw [unlessInSlot_slot hp]
    exact .refuses hi

theorem ends_jump (hi : i.isCti = true) (taken : Bool) {target : RegionAddr} (ht : IsWordAddr target) :
    Ends i s (s.jump taken target) :=
  ends_unlessInSlot hi (.refl s) taken ht

theorem ends_jumpAndLink (hi : i.isCti = true) (hk : i.keepsScalar = false) (rd : Reg) (taken : Bool)
    {target : RegionAddr} (ht : IsWordAddr target) : Ends i s (s.jumpAndLink rd taken target) :=
  ends_unlessInSlot hi ((Within.refl s).setX hk rd _) taken ht

theorem ends_writeX (hi : i.isCti = false) (hk : i.keepsScalar = false) (hu : Within i s u) (r : Reg) (w : Word) :
    Ends i s (u.writeX r w) :=
  .retires (hu.setX hk r w) hi

theorem ends_storeVbytes (hi : i.isCti = false) (hs : i.isStore = true) (n : Nat) (addr : Nat → Word)
    (b : Nat → Byte) : Ends i s (s.storeVbytes n addr b) :=
  .retires ((Within.refl s).store hs n addr b) hi

theorem ends_setVreg (hi : i.isCti = false) (hu : Within i s u) (r : Reg) (w : VReg) :
    Ends i s (.next (u.setVreg r w).retire) :=
  .retires (hu.setVreg r w) hi

theorem ends_multiply (hi : i.isCti = false) (hv : i.isVectorComputational = true) (vd : Reg) (acc : Fin 8 → Int)
    (clamp : AccLane → Half) : Ends i s (s.multiply vd acc clamp) :=
  .retires ((Within.refl s).setAccAndVreg hv vd _ _) hi

/-- An instruction that writes ACC_LO, a vector register and any of the flags (R280, R310). -/
theorem ends_setLoFlags (hi : i.isCti = false) (hv : i.isVectorComputational = true) (vd : Reg)
    (lo res : Fin 8 → Half) (vco vcc : BitVec 16) (vce : BitVec 8) :
    Ends i s (.next { s.setLoAndVreg vd lo res with vco := vco, vcc := vcc, vce := vce }.retire) :=
  .retires (((Within.refl s).setLoAndVreg hv vd lo res).setFlags hv vco vcc vce) hi

theorem ends_reserved (hi : i.isCti = false) (hv : i.isVectorComputational = true) (vd vs vt : Reg) (e : Elem) :
    Ends i s (.next (s.reserved vd vs vt e).retire) :=
  .retires ((Within.refl s).reserved hv vd vs vt e) hi

/-- A divide instruction: the common writes of the single-lane instructions, and the divide state (R340, R341). -/
theorem ends_setDivide (hi : i.isCti = false) (hv : i.isVectorComputational = true) (hd : i.usesDivideUnit = true)
    (vd : Reg) (de : BitVec 5) (vt : Reg) (e : Elem) (w divIn divOut : Half) (divDp : Bool) :
    Ends i s (.next
      { s.setSingleLane vd de vt e w with divIn := divIn, divOut := divOut, divDp := divDp }.retire) :=
  .retires (((Within.refl s).setSingleLane hv vd de vt e w).setDivide hd divIn divOut divDp) hi

/-- Every instruction, from every state. -/
theorem exec_ends (i : Instr) (s : State) : Ends i s (exec i s) := by
  cases i with
  | add | addu | sub | subu | and | or | xor | nor | slt | sltu | sll | srl | sra | sllv | srlv | srav | addi | addiu
  | slti | sltiu | andi | ori | xori | lui | lb | lh | lw | lbu | lhu | lwu | mfc2 | cfc2 =>
    exact ends_writeX rfl rfl (.refl s) _ _
  | mfc0 => exact ends_writeX rfl rfl ((Within.refl s).setDraws _) _ _
  | sb | sh | sw | sbv | ssv | slv | sdv | sqv | srv | spv | suv | shv | sfv | swv | stv =>
    exact ends_storeVbytes rfl rfl _ _ _
  | j | jr | beq | bne | blez | bgtz | bltz | bgez => exact ends_jump rfl _ (isWordAddr_and _)
  | jal | jalr | bltzal | bgezal => exact ends_jumpAndLink rfl rfl _ _ (isWordAddr_and _)
  | brk | mtc0 | vnop | vnull => exact .retires (.refl s) rfl
  | ctc2 => exact .retires ((Within.refl s).setFlagReg _ _) rfl
  | mtc2 | vsar | lbv | lsv | llv | ldv | lqv | lrv | lpv | luv | lhv | lfv =>
    exact ends_setVreg rfl (.refl s) _ _
  | lwv => exact ends_setVreg rfl ((Within.refl s).setDraws _) _ _
  | ltv => exact .retires ((Within.refl s).setVr _) rfl
  | vmulf | vmulu | vmudl | vmudm | vmudn | vmudh | vrndp | vrndn | vmacf | vmacu | vmadl | vmadm | vmadn | vmadh =>
    exact ends_multiply rfl rfl _ _ _
  | vmulq | vmacq => exact .retires ((Within.refl s).setAccAndVreg rfl _ _ _) rfl
  | vadd | vsub | vabs | vaddc | vsubc | vand | vnand | vor | vnor | vxor | vnxor | vlt | veq | vne | vge | vcl | vch
  | vcr | vmrg =>
    exact ends_setLoFlags rfl rfl _ _ _ _ _ _
  | vrsvd12 | vrsvd16 | vrsvd17 | vrsvd18 | vrsvd19 | vrsvd1a | vrsvd1b | vrsvd1c | vrsvd1e | vrsvd1f | vrsvd2e
  | vrsvd2f | vrsvd38 | vrsvd39 | vrsvd3a | vrsvd3b | vrsvd3c | vrsvd3d | vrsvd3e =>
    exact ends_reserved rfl rfl _ _ _ _
  | vrcp | vrcpl | vrcph | vrsq | vrsql | vrsqh => exact ends_setDivide rfl rfl rfl _ _ _ _ _ _ _ _
  | vmov => exact .retires ((Within.refl s).setSingleLane rfl _ _ _ _ _) rfl

/-! ### Ownership -/

/-- The end of a control transfer's cycle changes `pc`, `pend` and the cycle count alone (R180). -/
theorem transfer_frame (u : State) (taken : Bool) (target : RegionAddr) :
    u.transfer taken target =
      { u with
        pc := (u.transfer taken target).pc
        pend := (u.transfer taken target).pend
        cycles := u.cycles + 1 } := by
  unfold State.transfer
  split <;> rfl

/-- A next state is one within the instruction's bounds, but for `pc`, `pend` and one more cycle. -/
theorem exec_within {t : State} (h : exec i s = .next t) :
    ∃ u, Within i s u ∧ t = { u with pc := t.pc, pend := t.pend, cycles := u.cycles + 1 } := by
  have he : Ends i s (.next t) := h ▸ exec_ends i s
  cases he with
  | retires hu => exact ⟨_, hu, rfl⟩
  | transfers hu => exact ⟨_, hu, transfer_frame ..⟩

/-- Settles O55: read off the bounds within which every instruction changes the state. -/
theorem controlAndMemoryOwnership : Obligations.ControlAndMemoryOwnership := by
  intro i s t h
  obtain ⟨u, hu, ht⟩ := exec_within h
  rw [ht]
  exact ⟨hu.halted, hu.cfg, hu.refused, hu.imem, congrArg (· + 1) hu.cycles, hu.dmem⟩

/-- Settles O56: read off the same bounds; an instruction of primary opcode LWC2 is a vector load. -/
theorem vectorStateOwnership : Obligations.VectorStateOwnership := by
  intro i s t h
  obtain ⟨u, hu, ht⟩ := exec_within h
  rw [ht]
  refine ⟨hu.acc, hu.flags, hu.divide, fun hi => hu.scalar ?_⟩
  obtain hv | hs | ho := hi
  · simp [Instr.keepsScalar, hv]
  · simp [Instr.keepsScalar, hs]
  · simp [Instr.keepsScalar, isVectorLoad_of_opField ho]

/-! ### The invariant -/

theorem inv_iff :
    s.inv = true ↔ Memory.wf s.imem = true ∧ Memory.wf s.dmem = true ∧ s.gpr[0] = 0 ∧ s.pc &&& 0xFFC = s.pc ∧
      pendLegal s = true := by
  simp only [State.inv, Bool.and_eq_true, beq_iff_eq, and_assoc]

/-- What an instruction does before its cycle ends keeps the invariant. -/
theorem Within.inv (hu : Within i s u) (h : s.inv = true) : u.inv = true := by
  obtain ⟨him, hdm, hz, hpc, hp⟩ := inv_iff.mp h
  refine inv_iff.mpr ⟨hu.imem ▸ him, hu.wfDmem hdm, hu.slotZero.trans hz, by rw [hu.pc, hpc], ?_⟩
  rw [← hp, pendLegal, pendLegal, hu.pend, hu.cfg]

/-- A word address as 32 bits is a legal `pc` (R34). -/
theorem IsWordAddr.setWidth {a : RegionAddr} (h : IsWordAddr a) :
    a.setWidth 32 &&& (0xFFC : Word) = a.setWidth 32 := by
  rw [← masked_word, regionAddr_round, h]

/-- From a legal `pend` a cycle goes on at a word address (R35). -/
theorem isWordAddr_nextPc (h : pendLegal u = true) : IsWordAddr u.nextPc := by
  unfold pendLegal at h
  unfold State.nextPc
  split
  · next target hp =>
    rw [hp, Bool.and_eq_true, beq_iff_eq] at h
    exact h.2
  · exact isWordAddr_and _
  · exact isWordAddr_and _

theorem inv_retire (h : u.inv = true) : u.retire.inv = true := by
  obtain ⟨him, hdm, hz, -, hp⟩ := inv_iff.mp h
  exact inv_iff.mpr ⟨him, hdm, hz, (isWordAddr_nextPc hp).setWidth, rfl⟩

/-- A transfer to a word address leaves `pc` a word address (R180). -/
theorem transfer_pc_masked (taken : Bool) {target : RegionAddr} (ht : IsWordAddr target) :
    (u.transfer taken target).pc &&& 0xFFC = (u.transfer taken target).pc := by
  have hn : IsWordAddr ((u.fetchAddr + 4) &&& 0xFFC) := isWordAddr_and _
  unfold State.transfer
  split
  · exact hn.setWidth
  · cases taken
    · exact hn.setWidth
    · exact ht.setWidth

/-- A transfer to a word address leaves a legal `pend` (R36, R180). -/
theorem pendLegal_transfer (hp : u.pend = .none) (taken : Bool) {target : RegionAddr} (ht : IsWordAddr target) :
    pendLegal (u.transfer taken target) = true := by
  unfold State.transfer
  split
  · next hc =>
    cases taken
    · exact hc
    · simpa [pendLegal, hc, IsWordAddr] using ht
  · simp [pendLegal, hp]

theorem inv_transfer (h : u.inv = true) (hp : u.pend = .none) (taken : Bool) {target : RegionAddr}
    (ht : IsWordAddr target) : (u.transfer taken target).inv = true := by
  obtain ⟨him, hdm, hz, -, -⟩ := inv_iff.mp h
  exact inv_iff.mpr ⟨by rwa [transfer_imem], by rwa [transfer_dmem], by simpa using hz, transfer_pc_masked taken ht,
    pendLegal_transfer hp taken ht⟩

theorem exec_keeps_inv {t : State} (h : s.inv = true) (he : exec i s = .next t) : t.inv = true := by
  have hends : Ends i s (.next t) := he ▸ exec_ends i s
  cases hends with
  | retires hu => exact inv_retire (hu.inv h)
  | transfers hu _ hp ht => exact inv_transfer (hu.inv h) (hu.pend.trans hp) _ ht

theorem cycle_keeps_inv {t : State} (h : s.inv = true) (hc : cycle s = .next t) : t.inv = true := by
  unfold cycle at hc
  split at hc
  · exact exec_keeps_inv h hc
  · cases hc
    exact inv_retire h

/-- Settles O52: a halted step changes nothing, and a running one is a cycle, whose effect keeps the invariant and
whose end leaves `pc` and `pend` at word addresses. -/
theorem everyStepKeepsInvariant : Obligations.EveryStepKeepsInvariant := by
  intro s t h hs
  obtain ⟨-, hs⟩ := step_next hs
  split at hs
  · cases hs
    exact h
  · exact cycle_keeps_inv h hs

/-- Settles O53. -/
theorem creationMeetsInvariant : Obligations.CreationMeetsInvariant :=
  inv_iff.mpr ⟨Memory.wf_nil, Memory.wf_nil, rfl, rfl, rfl⟩

/-- Settles O7: the read-after-write laws of the scalar and the vector file, and a lane as its two bytes. -/
theorem registersReadBack : Obligations.RegistersReadBack :=
  ⟨x_setX, vreg_setVreg, lane_setLane, vbyte_setVbytes, lane_eq_vbytes⟩

end Sys2Proof.Machine
end

section
/-! The two reset events (R54, R55) and the host's views of the register files (R41, R53, R418-R420). -/

namespace Sys2Proof.Machine

variable {s : State}

/-! ### Reset -/

theorem reset_x (r : Reg) : State.reset.x r = 0 := by
  rw [State.x]
  split
  · rfl
  · exact Vector.getElem_replicate _

theorem reset_lane (r : Reg) (j : Fin 8) : State.reset.lane r j = 0 := by
  simp [State.lane, State.vreg, State.reset]

theorem reset_accLane (j : Fin 8) : State.reset.accLane j = 0 := by
  simp [State.accLane, State.reset]

/-- Settles O54: `init` has the registers of the state at creation, and keeps the rest. -/
theorem resetEvents : Obligations.ResetEvents := by
  refine ⟨fun _ _ => rfl, ?_⟩
  intro zeroed
  have hreset : zeroed State.reset :=
    ⟨reset_x, rfl, rfl, reset_lane, reset_accLane, rfl, rfl, rfl, rfl, rfl, rfl, rfl⟩
  exact ⟨hreset, rfl, fun _ => ⟨rfl, rfl⟩, fun s => ⟨hreset, rfl, fun _ => rfl, fun _ => rfl, rfl, rfl⟩⟩

/-! ### The scalar region (R53) -/

/-- The bits of the mask of a word's lowest byte. -/
theorem byteMask_bit (m : Nat) : (0xFF#32).getLsbD m = decide (m < 8) := by
  rw [show 0xFF#32 = (BitVec.allOnes 8).setWidth 32 from rfl, BitVec.getLsbD_setWidth, BitVec.getLsbD_allOnes,
    ← Bool.decide_and, decide_eq_decide]
  omega

/-- Byte `j` of a word whose byte `k` was replaced. -/
theorem extract_withByte (w : Word) (b : Byte) {j k : Nat} (hj : j < 4) (hk : k < 4) :
    (withByte w k b).extractLsb' (8 * j) 8 = if j = k then b else w.extractLsb' (8 * j) 8 := by
  apply BitVec.eq_of_getLsbD_eq
  intro n hn
  have h32 : 8 * j + n < 32 := by omega
  simp only [withByte, BitVec.getLsbD_extractLsb', BitVec.getLsbD_or, BitVec.getLsbD_and, BitVec.getLsbD_not,
    BitVec.getLsbD_shiftLeft, BitVec.getLsbD_setWidth, byteMask_bit, hn, h32, decide_true, Bool.true_and]
  obtain hlt | rfl | hgt := Nat.lt_trichotomy j k
  · simp [show 8 * j + n < 8 * k by omega, show j ≠ k by omega, hn]
  · simp [hn, show ¬(8 * j + n < 8 * j) by omega, show n < 32 by omega]
  · simp [show ¬(8 * j + n < 8 * k) by omega, show ¬(8 * j + n - 8 * k < 8) by omega, show j ≠ k by omega, hn,
      BitVec.getLsbD_of_ge b (8 * j + n - 8 * k) (by omega)]

/-- Numbers below 32 name distinct registers. -/
theorem regOfNat_inj {a b : Nat} (ha : a < 32) (hb : b < 32) : BitVec.ofNat 5 a = BitVec.ofNat 5 b ↔ a = b := by
  rw [← BitVec.toNat_inj, BitVec.toNat_ofNat, BitVec.toNat_ofNat, Nat.mod_eq_of_lt ha, Nat.mod_eq_of_lt hb]

theorem scalarSlot_register (s : State) (m : Fin 33) (h : m.val < 32) :
    s.scalarSlot m = s.x (BitVec.ofNat 5 m.val) := by
  rw [State.scalarSlot, dif_pos h]
  congr 1
  exact BitVec.eq_of_toNat_eq (by simp [Nat.mod_eq_of_lt h])

theorem scalarSlot_pc (s : State) (m : Fin 33) (h : m.val = 32) : s.scalarSlot m = s.pc := by
  rw [State.scalarSlot, dif_neg (by omega)]

theorem scalarSlot_setPc (s : State) (w : Word) (m : Fin 33) :
    (s.setPc w).scalarSlot m = if m.val = 32 then w else s.scalarSlot m := by
  split
  · next h => exact scalarSlot_pc _ m h
  · next h => rw [scalarSlot_register _ m (by omega), scalarSlot_register _ m (by omega)]; rfl

theorem scalarSlot_setX (s : State) {n : Nat} (hn : n < 32) (h0 : n ≠ 0) (w : Word) (m : Fin 33) :
    (s.setX (BitVec.ofNat 5 n) w).scalarSlot m = if m.val = n then w else s.scalarSlot m := by
  have hne : BitVec.ofNat 5 n ≠ 0 := mt (regOfNat_inj (b := 0) hn (by decide)).mp h0
  by_cases hm : m.val < 32
  · rw [scalarSlot_register _ m hm, scalarSlot_register _ m hm]
    split
    · next h => rw [h, x_setX_self, if_neg hne]
    · next h => exact x_setX_of_ne s w (mt (regOfNat_inj hm hn).mp h)
  · rw [scalarSlot_pc _ m (by omega), scalarSlot_pc _ m (by omega), setX_pc, if_neg (by omega)]

/-- A scalar register write changes the scalar file alone. -/
theorem setX_frame (s : State) (r : Reg) (w : Word) : s.setX r w = { s with gpr := (s.setX r w).gpr } := by
  unfold State.setX
  split <;> rfl

/-- A raw write to a byte above slot 0 replaces that byte of its slot, and changes no other slot (R53). -/
theorem setRawScalar_slots (s : State) (i : Fin 132) (b : Byte) (h : 4 ≤ i.val) :
    ∃ t, s.setRawScalar i b = some t ∧
      (∀ m : Fin 33, t.scalarSlot m = if m.val = i.val / 4 then
        withByte (s.scalarSlot ⟨i.val / 4, by omega⟩) (i.val % 4) b else s.scalarSlot m) ∧
      t = { s with gpr := t.gpr, pc := t.pc } := by
  have h0 : i.val / 4 ≠ 0 := by omega
  by_cases h32 : i.val / 4 = 32
  · refine ⟨_, by rw [State.setRawScalar, if_neg h0, if_pos h32], fun m => ?_, rfl⟩
    exact (scalarSlot_setPc s _ m).trans (if_congr (by rw [h32]) rfl rfl)
  · refine ⟨_, by rw [State.setRawScalar, if_neg h0, if_neg h32], ?_, ?_⟩
    · exact scalarSlot_setX s (by omega) h0 _
    · rw [setX_pc]
      exact setX_frame s _ _

/-- A raw write to a byte above slot 0 changes that byte of the raw buffer and no other (R53). -/
theorem rawScalar_setRawScalar (s : State) (i : Fin 132) (b : Byte) (h : 4 ≤ i.val) :
    ∃ t, s.setRawScalar i b = some t ∧ (∀ l, t.rawScalar l = if l = i then b else s.rawScalar l) ∧
      t = { s with gpr := t.gpr, pc := t.pc } := by
  obtain ⟨t, ht, hslot, hframe⟩ := setRawScalar_slots s i b h
  refine ⟨t, ht, fun l => ?_, hframe⟩
  rw [State.rawScalar, hslot, State.rawScalar]
  by_cases hl : l.val / 4 = i.val / 4
  · have hli : l.val % 4 = i.val % 4 ↔ l = i := by rw [Fin.ext_iff]; omega
    simp only [hl, if_true]
    rw [extract_withByte _ _ (by omega) (by omega), if_congr hli rfl rfl]
  · rw [if_neg hl, if_neg (fun e => hl (by rw [e]))]

theorem setRawScalar_slot_zero (s : State) (i : Fin 132) (b : Byte) (h : i.val < 4) :
    s.setRawScalar i b = if b = 0 then some s else none := by
  rw [State.setRawScalar, if_pos (by omega)]

theorem rawScalar_register (s : State) (n : Reg) (k : Fin 4) :
    s.rawScalar ⟨4 * n.toNat + k, by have := n.isLt; omega⟩ = (s.x n).extractLsb' (8 * k) 8 := by
  have hn := n.isLt
  have hd : (4 * n.toNat + k.val) / 4 = n.toNat := by omega
  have hm : (4 * n.toNat + k.val) % 4 = k.val := by omega
  simp only [State.rawScalar, hm]
  rw [scalarSlot_register _ _ (by simp only; omega)]
  simp only [hd, BitVec.ofNat_toNat, BitVec.setWidth_eq]

theorem rawScalar_pc (s : State) (k : Fin 4) :
    s.rawScalar ⟨128 + k, by omega⟩ = s.pc.extractLsb' (8 * k) 8 := by
  have hm : (128 + k.val) % 4 = k.val := by omega
  simp only [State.rawScalar, hm]
  rw [scalarSlot_pc _ _ (by simp only; omega)]

/-! ### The host's write of `pc` (R420, D18) -/

/-- After a write of `pc` the next instruction retires from there, as the slot of a pending transfer. -/
theorem exec_setPc {i : Instr} {t : State} {v : Word} (hi : i.isCti = false) (h : exec i (s.setPc v) = .next t) :
    t.pend = .none ∧
      t.pc = (match s.pend with
        | .slot (some target) => target.setWidth 32
        | _ => ((v &&& 0xFFC) + 4) &&& 0xFFC) := by
  have he : Ends i (s.setPc v) (.next t) := h ▸ exec_ends i (s.setPc v)
  cases he with
  | transfers _ hc => rw [hi] at hc; cases hc
  | retires hu =>
    obtain ⟨htaken, hnext, hpend, -⟩ := retires_retire hu.pc hu.pend hu.cycles
    refine ⟨hpend, ?_⟩
    split
    · next target hp => exact htaken target hp
    · next hp => exact hnext hp

/-! ### The vector region (R41) -/

/-- Raw byte `16 n + 15 - k` stands for logical byte `k` of register `n`. -/
theorem rawVector_place {n : Reg} {k : Elem} {i : Fin 512} (h : i.val = 16 * n.toNat + 15 - k.toNat) :
    BitVec.ofNat 5 (i.val / 16) = n ∧ BitVec.ofNat 4 (15 - i.val % 16) = k := by
  have hn := n.isLt
  have hk := k.isLt
  constructor
  · exact BitVec.eq_of_toNat_eq (by rw [BitVec.toNat_ofNat]; omega)
  · exact BitVec.eq_of_toNat_eq (by rw [BitVec.toNat_ofNat]; omega)

theorem rawVector_eq_vbyte (s : State) {n : Reg} {k : Elem} {i : Fin 512}
    (h : i.val = 16 * n.toNat + 15 - k.toNat) : s.rawVector i = s.vbyte n k := by
  obtain ⟨hn, hk⟩ := rawVector_place h
  rw [State.rawVector, hn, hk]

theorem vbyte_setRawVector (s : State) {n : Reg} {k : Elem} {i : Fin 512}
    (h : i.val = 16 * n.toNat + 15 - k.toNat) (v : Byte) (q : Reg) (l : Elem) :
    (s.setRawVector i v).vbyte q l = if q = n ∧ l = k then v else s.vbyte q l := by
  obtain ⟨hn, hk⟩ := rawVector_place h
  rw [State.setRawVector, hn, hk, vbyte_setVbytes]
  by_cases hq : q = n
  · subst hq
    by_cases hl : l = k <;> simp [hl]
  · simp [hq]

/-- The even byte of a lane is its high half (R10). -/
theorem vbyte_even (s : State) (r : Reg) (j : Fin 8) :
    s.vbyte r (BitVec.ofNat 4 (2 * j)) = (s.lane r j).extractLsb' 8 8 := by
  rw [lane_eq_vbytes]
  exact ((extract_above _ _ 0 8).trans (extract_all _)).symm

/-- The odd byte of a lane is its low half (R10). -/
theorem vbyte_odd (s : State) (r : Reg) (j : Fin 8) :
    s.vbyte r (BitVec.ofNat 4 (2 * j + 1)) = (s.lane r j).extractLsb' 0 8 := by
  rw [lane_eq_vbytes]
  exact (extract_low _ _).symm

/-- Lane `j` of register `n` stands little-endian at offset `14 - 2 j` of the register's raw bytes (R41). -/
theorem rawVector_lane (s : State) (n : Reg) (j : Fin 8) (b : Fin 2) {i : Fin 512}
    (h : i.val = 16 * n.toNat + (14 - 2 * j) + b) : s.rawVector i = (s.lane n j).extractLsb' (8 * b) 8 := by
  have place {k : Nat} (hk : k + b.val = 2 * j.val + 1) : s.rawVector i = s.vbyte n (BitVec.ofNat 4 k) :=
    rawVector_eq_vbyte s (by rw [BitVec.toNat_ofNat]; omega)
  match b with
  | 0 => exact (place rfl).trans (vbyte_odd s n j)
  | 1 => exact (place rfl).trans (vbyte_even s n j)

/-- Settles O59: the register laws read through the host's accessors and raw buffers, and the end of the cycle after
a write of `pc`. -/
theorem hostRegisterViews : Obligations.HostRegisterViews := by
  refine ⟨fun s n v => ⟨fun q => x_setX s n q v, setX_frame s n v⟩, rawScalar_register, rawScalar_pc,
    fun s i b => ⟨setRawScalar_slot_zero s i b, rawScalar_setRawScalar s i b⟩,
    fun s v => ⟨rfl, rfl, fun i t => exec_setPc⟩, fun s n k => rawVector_eq_vbyte s rfl,
    fun s n k v => ⟨vbyte_setRawVector s rfl v, rfl⟩, fun s n j v => ⟨?_, fun b => ?_, rfl⟩⟩
  · exact fun q k => lane_setLane s n q j k v
  · rw [rawVector_lane _ n j b rfl, State.writeVectorLane, lane_setLane, if_pos ⟨rfl, rfl⟩]

end Sys2Proof.Machine
end

section
/-! The two memory regions as a program and as the host see them (20_memory.md): a stored value reads back part by part
in big-endian order (R72), and the host's byte and raw views of a region (R73, R78). -/

namespace Sys2Proof.Machine

/-! ### Reading back a stored value (R72, R74, R75) -/

/-- Where `n` bytes hold `v` in big-endian order, the access of `m` bytes from byte `k` on reads their field of `v`. -/
theorem memRead_of_bytes {t : State} {a : Word} {n : Nat} {v : BitVec (8 * n)}
    (hv : ∀ k < n, t.dm (a + BitVec.ofNat 32 k) = v.extractLsb' (8 * (n - 1 - k)) 8) (k : Nat) {m : Nat}
    (hm : k + m ≤ n) : t.memRead (a + BitVec.ofNat 32 k) m = v.extractLsb' (8 * (n - k - m)) (8 * m) := by
  induction m with
  | zero => exact BitVec.of_length_zero.symm
  | succ m ih =>
    have hbyte : t.dm (a + BitVec.ofNat 32 k + BitVec.ofNat 32 m) = v.extractLsb' (8 * (n - k - (m + 1))) 8 := by
      rw [BitVec.add_assoc, ← BitVec.ofNat_add, hv (k + m) (by omega),
        show n - 1 - (k + m) = n - k - (m + 1) by omega]
    rw [State.memRead, ih (by omega), hbyte, show 8 * (n - k - m) = 8 * (n - k - (m + 1)) + 8 by omega]
    exact extract_join v _ (8 * m) 8

/-- After SW an access of `m` bytes from the word's byte `k` on reads their field of the stored register. -/
theorem memRead_sw {s t : State} {rt base : Reg} {imm : BitVec 16} (h : exec (.sw rt imm base) s = .next t)
    (k : Nat) {m : Nat} (hm : k + m ≤ 4) :
    t.memRead (s.ea base imm + BitVec.ofNat 32 k) m = (s.x rt).extractLsb' (8 * (4 - k - m)) (8 * m) := by
  cases h
  obtain ⟨hbytes, -⟩ := store_spec s 4 _ (fun k => (s.x rt).extractLsb' (8 * (3 - k)) 8)
    (runAddr_distinct (s.ea base imm) 4 (by decide))
  exact memRead_of_bytes (v := s.x rt) hbytes k hm

/-- What a register other than 0 holds after the cycle that writes it. -/
theorem x_of_writeX {s t : State} {r : Reg} {v : Word} (hr : r ≠ 0) (h : s.writeX r v = .next t) : t.x r = v := by
  cases h
  rw [retire_x, x_setX_self, if_neg hr]

/-- An unsigned load of `m` bytes, from the stored word's byte `k` on, gives their field of the word as a number. -/
theorem loadUnsigned_after_sw {s t u : State} {rt base rd b : Reg} {imm disp : BitVec 16}
    (hsw : exec (.sw rt imm base) s = .next t) (hrd : rd ≠ 0) (k m : Nat) (hm : k + m ≤ 4)
    (ha : t.ea b disp = s.ea base imm + BitVec.ofNat 32 k)
    (hl : t.writeX rd ((t.memRead (t.ea b disp) m).setWidth 32) = .next u) :
    (u.x rd).toNat = (s.x rt).toNat / 2 ^ (8 * (4 - k - m)) % 2 ^ (8 * m) := by
  rw [x_of_writeX hrd hl, ha, memRead_sw hsw k hm, BitVec.toNat_setWidth_of_le (by omega), BitVec.extractLsb'_toNat,
    Nat.shiftRight_eq_div_pow]

/-- Settles O19: each load reads a field of the stored word. -/
theorem storedWordReadsBack : Obligations.StoredWordReadsBack := by
  intro s t u rt base rd b imm disp hsw hrd
  have atWord : s.ea base imm = s.ea base imm + BitVec.ofNat 32 0 := (BitVec.add_zero _).symm
  refine ⟨fun ha hl => ?lw, fun ha hl => ?high, fun ha hl => ?low, fun k hk ha hl => ?byte⟩
  case lw =>
    have hload : u.x rd = t.memRead (t.ea b disp) 4 := x_of_writeX hrd hl
    rw [hload, ha.trans atWord, memRead_sw hsw 0 (by decide)]
    exact extract_all (s.x rt)
  case high =>
    have hload := loadUnsigned_after_sw hsw hrd 0 2 (by decide) (ha.trans atWord) hl
    have := (s.x rt).isLt
    omega
  case low =>
    have hload := loadUnsigned_after_sw hsw hrd 2 2 (by decide) ha hl
    omega
  case byte =>
    have hload := loadUnsigned_after_sw hsw hrd k 1 hk ha hl
    rwa [show 4 - k - 1 = 3 - k by omega] at hload

/-! ### The host's bytes (R78) -/

/-- A byte written by the host is read back; no other byte of its region and none of the other region changes. -/
theorem readByte_writeByte (s : State) (r q : Region) (a b : Word) (v : Byte) :
    (s.writeByte r a v).readByte q b =
      if q = r ∧ b.toNat % 4096 = a.toNat % 4096 then v else s.readByte q b := by
  by_cases hq : q = r
  · subst hq
    simp only [true_and]
    cases q with
    | imem => exact im_putIm s a b v
    | dmem => exact dm_putDm s a b v
  · rw [if_neg (fun h => hq h.1)]
    cases r with
    | imem => cases q with
      | imem => exact absurd rfl hq
      | dmem => rfl
    | dmem => cases q with
      | imem => rfl
      | dmem => exact absurd rfl hq

/-! ### The raw buffer (R73) -/

/-- The remap keeps the word of an address and complements its place in the word. -/
theorem remap_append (word : BitVec 10) (place : BitVec 2) : remap (word ++ place) = word ++ ~~~place := by
  have hword : (word ++ place) &&& ~~~(3 : RegionAddr) = word ++ 0#2 :=
    and_join (and_every word) (and_none place)
  have hplace : (word ++ place) &&& (3 : RegionAddr) = 0#10 ++ place :=
    and_join (and_none word) (and_every place)
  have hflip : ∀ p : BitVec 2, (3 : RegionAddr) - (0#10 ++ p) = 0#10 ++ ~~~p := by decide
  rw [remap, hword, hplace, hflip, BitVec.or_append, BitVec.or_zero, BitVec.zero_or]

/-- A region address is a word and a place in it. -/
theorem regionAddr_eq_append (a : RegionAddr) : ∃ (word : BitVec 10) (place : BitVec 2), a = word ++ place :=
  ⟨_, _, ((extract_join a 0 10 2).trans (extract_all a)).symm⟩

/-- The remap undoes itself. -/
theorem remap_remap (a : RegionAddr) : remap (remap a) = a := by
  obtain ⟨word, place, rfl⟩ := regionAddr_eq_append a
  rw [remap_append, remap_append, BitVec.not_not]

theorem toNat_append_place (word : BitVec 10) (place : BitVec 2) :
    (word ++ place).toNat = word.toNat * 4 + place.toNat := by
  rw [BitVec.toNat_append, ← Nat.shiftLeft_add_eq_or_of_lt place.isLt, Nat.shiftLeft_eq]

theorem remap_toNat (a : RegionAddr) : (remap a).toNat = a.toNat / 4 * 4 + (3 - a.toNat % 4) := by
  obtain ⟨word, place, rfl⟩ := regionAddr_eq_append a
  have hp := place.isLt
  rw [remap_append, toNat_append_place, toNat_append_place, BitVec.toNat_not]
  omega

theorem rawRead_remap (s : State) (r : Region) (a : RegionAddr) :
    s.rawRead r (remap a) = s.readByte r (a.setWidth 32) := by
  rw [State.rawRead, remap_remap]

theorem rawWrite_remap (s : State) (r : Region) (a : RegionAddr) (v : Byte) :
    s.rawWrite r (remap a) v = s.writeByte r (a.setWidth 32) v := by
  rw [State.rawWrite, remap_remap]

/-- Settles O58: the read-after-write laws of the two regions, and the remap as its own inverse. -/
theorem hostMemoryViews : Obligations.HostMemoryViews :=
  ⟨readByte_writeByte, remap_toNat, rawRead_remap, rawWrite_remap⟩

end Sys2Proof.Machine
end

section
/-! Round trip of the encoder and the decoder (R101-R119): the word the encoder writes, under the decoder's lemma for its
row. -/

namespace Sys2Proof

/-- The encoder writes the shift selector of VRNDP and VRNDN as bit 0 of the `vs` field, and the decoder reads that bit
(R249). -/
theorem selector_of_vsField (sh : BitVec 1) : (sh.setWidth 5).setWidth 1 = sh := by
  rw [BitVec.setWidth_setWidth_of_le _ (by decide), BitVec.setWidth_eq]

theorem decode_encode : (i : Instr) → decode (encode i) = .ok i
  -- Scalar register arithmetic, logic and comparison (40_scalar_alu.md)
  | .add .. => decode_add ..
  | .addu .. => decode_addu ..
  | .sub .. => decode_sub ..
  | .subu .. => decode_subu ..
  | .and .. => decode_and ..
  | .or .. => decode_or ..
  | .xor .. => decode_xor ..
  | .nor .. => decode_nor ..
  | .slt .. => decode_slt ..
  | .sltu .. => decode_sltu ..
  -- Shifts (40_scalar_alu.md)
  | .sll .. => decode_sll ..
  | .srl .. => decode_srl ..
  | .sra .. => decode_sra ..
  | .sllv .. => decode_sllv ..
  | .srlv .. => decode_srlv ..
  | .srav .. => decode_srav ..
  -- Immediate forms (40_scalar_alu.md)
  | .addi .. => decode_addi ..
  | .addiu .. => decode_addiu ..
  | .slti .. => decode_slti ..
  | .sltiu .. => decode_sltiu ..
  | .andi .. => decode_andi ..
  | .ori .. => decode_ori ..
  | .xori .. => decode_xori ..
  | .lui .. => decode_lui ..
  -- Scalar loads and stores (42_scalar_loadstore.md)
  | .lb .. => decode_lb ..
  | .lh .. => decode_lh ..
  | .lw .. => decode_lw ..
  | .lbu .. => decode_lbu ..
  | .lhu .. => decode_lhu ..
  | .lwu .. => decode_lwu ..
  | .sb .. => decode_sb ..
  | .sh .. => decode_sh ..
  | .sw .. => decode_sw ..
  -- Jumps and branches (41_scalar_branch.md)
  | .j .. => decode_j ..
  | .jal .. => decode_jal ..
  | .jr .. => decode_jr ..
  | .jalr .. => decode_jalr ..
  | .beq .. => decode_beq ..
  | .bne .. => decode_bne ..
  | .blez .. => decode_blez ..
  | .bgtz .. => decode_bgtz ..
  | .bltz .. => decode_bltz ..
  | .bgez .. => decode_bgez ..
  | .bltzal .. => decode_bltzal ..
  | .bgezal .. => decode_bgezal ..
  -- BREAK and the coprocessor moves (43_scalar_cop_moves.md)
  | .brk .. => decode_brk ..
  | .mfc0 .. => decode_mfc0 ..
  | .mtc0 .. => decode_mtc0 ..
  | .mfc2 .. => decode_mfc2 ..
  | .mtc2 .. => decode_mtc2 ..
  | .cfc2 .. => decode_cfc2 ..
  | .ctc2 .. => decode_ctc2 ..
  -- Vector multiply and multiply-accumulate (44_vector_multiply.md)
  | .vmulf .. => decode_vmulf ..
  | .vmulu .. => decode_vmulu ..
  | .vrndp _ sh _ _ => (decode_vrndp ..).trans (by rw [selector_of_vsField sh])
  | .vmulq .. => decode_vmulq ..
  | .vmudl .. => decode_vmudl ..
  | .vmudm .. => decode_vmudm ..
  | .vmudn .. => decode_vmudn ..
  | .vmudh .. => decode_vmudh ..
  | .vmacf .. => decode_vmacf ..
  | .vmacu .. => decode_vmacu ..
  | .vrndn _ sh _ _ => (decode_vrndn ..).trans (by rw [selector_of_vsField sh])
  | .vmacq .. => decode_vmacq ..
  | .vmadl .. => decode_vmadl ..
  | .vmadm .. => decode_vmadm ..
  | .vmadn .. => decode_vmadn ..
  | .vmadh .. => decode_vmadh ..
  -- Vector add, subtract, accumulator read, logic (45_vector_add_logic.md)
  | .vadd .. => decode_vadd ..
  | .vsub .. => decode_vsub ..
  | .vabs .. => decode_vabs ..
  | .vaddc .. => decode_vaddc ..
  | .vsubc .. => decode_vsubc ..
  | .vsar .. => decode_vsar ..
  | .vand .. => decode_vand ..
  | .vnand .. => decode_vnand ..
  | .vor .. => decode_vor ..
  | .vnor .. => decode_vnor ..
  | .vxor .. => decode_vxor ..
  | .vnxor .. => decode_vnxor ..
  -- Reserved vector opcodes (45_vector_add_logic.md R295)
  | .vrsvd12 .. => decode_vrsvd12 ..
  | .vrsvd16 .. => decode_vrsvd16 ..
  | .vrsvd17 .. => decode_vrsvd17 ..
  | .vrsvd18 .. => decode_vrsvd18 ..
  | .vrsvd19 .. => decode_vrsvd19 ..
  | .vrsvd1a .. => decode_vrsvd1a ..
  | .vrsvd1b .. => decode_vrsvd1b ..
  | .vrsvd1c .. => decode_vrsvd1c ..
  | .vrsvd1e .. => decode_vrsvd1e ..
  | .vrsvd1f .. => decode_vrsvd1f ..
  | .vrsvd2e .. => decode_vrsvd2e ..
  | .vrsvd2f .. => decode_vrsvd2f ..
  | .vrsvd38 .. => decode_vrsvd38 ..
  | .vrsvd39 .. => decode_vrsvd39 ..
  | .vrsvd3a .. => decode_vrsvd3a ..
  | .vrsvd3b .. => decode_vrsvd3b ..
  | .vrsvd3c .. => decode_vrsvd3c ..
  | .vrsvd3d .. => decode_vrsvd3d ..
  | .vrsvd3e .. => decode_vrsvd3e ..
  -- Vector compare, clip and merge (46_vector_compare_select.md)
  | .vlt .. => decode_vlt ..
  | .veq .. => decode_veq ..
  | .vne .. => decode_vne ..
  | .vge .. => decode_vge ..
  | .vcl .. => decode_vcl ..
  | .vch .. => decode_vch ..
  | .vcr .. => decode_vcr ..
  | .vmrg .. => decode_vmrg ..
  -- Vector single-lane operations (47_vector_single_lane.md)
  | .vrcp .. => decode_vrcp ..
  | .vrcpl .. => decode_vrcpl ..
  | .vrcph .. => decode_vrcph ..
  | .vmov .. => decode_vmov ..
  | .vrsq .. => decode_vrsq ..
  | .vrsql .. => decode_vrsql ..
  | .vrsqh .. => decode_vrsqh ..
  | .vnop => decode_vnop ..
  | .vnull => decode_vnull ..
  -- Vector loads (48_vector_loadstore.md)
  | .lbv .. => decode_lbv ..
  | .lsv .. => decode_lsv ..
  | .llv .. => decode_llv ..
  | .ldv .. => decode_ldv ..
  | .lqv .. => decode_lqv ..
  | .lrv .. => decode_lrv ..
  | .lpv .. => decode_lpv ..
  | .luv .. => decode_luv ..
  | .lhv .. => decode_lhv ..
  | .lfv .. => decode_lfv ..
  | .lwv .. => decode_lwv ..
  | .ltv .. => decode_ltv ..
  -- Vector stores (48_vector_loadstore.md)
  | .sbv .. => decode_sbv ..
  | .ssv .. => decode_ssv ..
  | .slv .. => decode_slv ..
  | .sdv .. => decode_sdv ..
  | .sqv .. => decode_sqv ..
  | .srv .. => decode_srv ..
  | .spv .. => decode_spv ..
  | .suv .. => decode_suv ..
  | .shv .. => decode_shv ..
  | .sfv .. => decode_sfv ..
  | .swv .. => decode_swv ..
  | .stv .. => decode_stv ..

/-- Settles O1: the decoder's lemma of each row, and the bytes of a word read as the word. -/
theorem decodeInvertsEncode : Obligations.DecodeInvertsEncode :=
  fun i rest => ⟨decode_encode i, by rw [decodeBytes_wordBytes, decode_encode]⟩

end Sys2Proof
end

section
/-! The words the decoder rejects (R113-R120): what each sub-table lists, and each rejection as a condition on the fields
of the word. -/

namespace Sys2Proof

/-! ### The lists of R113-R119 -/

/-- The primary opcodes R113 lists. -/
def primaryOpcodes : List (BitVec 6) :=
  [0x00, 0x01, 0x02, 0x03, 0x04, 0x05, 0x06, 0x07, 0x08, 0x09, 0x0A, 0x0B, 0x0C, 0x0D, 0x0E, 0x0F, 0x10, 0x12,
   0x20, 0x21, 0x23, 0x24, 0x25, 0x27, 0x28, 0x29, 0x2B, 0x32, 0x3A]

/-- The `funct` values R114 lists. -/
def specialFuncts : List (BitVec 6) :=
  [0x00, 0x02, 0x03, 0x04, 0x06, 0x07, 0x08, 0x09, 0x0D,
   0x20, 0x21, 0x22, 0x23, 0x24, 0x25, 0x26, 0x27, 0x2A, 0x2B]

/-- The operations R115 lists. -/
def regimmOperations : List (BitVec 5) := [0x00, 0x01, 0x10, 0x11]

/-- The move kinds R116 lists. -/
def cop0Moves : List (BitVec 5) := [0x00, 0x04]

/-- The move kinds R117 lists. -/
def cop2Moves : List (BitVec 5) := [0x00, 0x02, 0x04, 0x06]

/-- The `vop` values R118 and R119 list. -/
def vectorMemoryOps : List (BitVec 5) :=
  [0x00, 0x01, 0x02, 0x03, 0x04, 0x05, 0x06, 0x07, 0x08, 0x09, 0x0A, 0x0B]

/-! ### Each sub-table rejects what its list leaves out -/

variable {w : Word} {r : DecodeReject}

theorem decodeSpecial_error_iff :
    decodeSpecial w = .error r ↔ functField w ∉ specialFuncts ∧ r = .illegalSpecialFunct := by
  unfold decodeSpecial
  split <;> simp_all [specialFuncts, eq_comm]

theorem decodeRegimm_error_iff :
    decodeRegimm w = .error r ↔ rtField w ∉ regimmOperations ∧ r = .illegalRegimm := by
  unfold decodeRegimm
  split <;> simp_all [regimmOperations, eq_comm]

theorem decodeCop0_error_iff :
    decodeCop0 w = .error r ↔ rsField w ∉ cop0Moves ∧ r = .illegalCop0Move := by
  unfold decodeCop0
  split <;> simp_all [cop0Moves, eq_comm]

theorem decodeCop2Move_error_iff :
    decodeCop2Move w = .error r ↔ rsField w ∉ cop2Moves ∧ r = .illegalCop2Move := by
  unfold decodeCop2Move
  split <;> simp_all [cop2Moves, eq_comm]

theorem decodeVectorLoad_error_iff :
    decodeVectorLoad w = .error r ↔ rdField w ∉ vectorMemoryOps ∧ r = .illegalVectorLoad := by
  unfold decodeVectorLoad
  split <;> simp_all [vectorMemoryOps, eq_comm]

theorem decodeVectorStore_error_iff :
    decodeVectorStore w = .error r ↔ rdField w ∉ vectorMemoryOps ∧ r = .illegalVectorStore := by
  unfold decodeVectorStore
  split <;> simp_all [vectorMemoryOps, eq_comm]

/-! ### The rejections of the decoder -/

/-- Why a word is ILLEGAL, one constructor per sub-table. -/
inductive Rejects (w : Word) : DecodeReject → Prop where
  | primary (h : opField w ∉ primaryOpcodes) : Rejects w .illegalPrimary
  | special (hop : opField w = 0x00) (h : functField w ∉ specialFuncts) : Rejects w .illegalSpecialFunct
  | regimm (hop : opField w = 0x01) (h : rtField w ∉ regimmOperations) : Rejects w .illegalRegimm
  | cop0 (hop : opField w = 0x10) (h : rsField w ∉ cop0Moves) : Rejects w .illegalCop0Move
  | cop2Move (hop : opField w = 0x12) (hbit : w.getLsbD 25 = false) (h : rsField w ∉ cop2Moves) :
      Rejects w .illegalCop2Move
  | vectorLoad (hop : opField w = 0x32) (h : rdField w ∉ vectorMemoryOps) : Rejects w .illegalVectorLoad
  | vectorStore (hop : opField w = 0x3A) (h : rdField w ∉ vectorMemoryOps) : Rejects w .illegalVectorStore

theorem rejects_of_decode_error (h : decode w = .error r) : Rejects w r := by
  unfold decode at h
  split at h
  case h_1 hop =>
    obtain ⟨hf, rfl⟩ := decodeSpecial_error_iff.mp h
    exact .special hop hf
  case h_2 hop =>
    obtain ⟨hf, rfl⟩ := decodeRegimm_error_iff.mp h
    exact .regimm hop hf
  case h_17 hop =>
    obtain ⟨hf, rfl⟩ := decodeCop0_error_iff.mp h
    exact .cop0 hop hf
  case h_18 hop =>
    split at h
    case isTrue => cases h
    case isFalse hbit =>
      obtain ⟨hf, rfl⟩ := decodeCop2Move_error_iff.mp h
      exact .cop2Move hop (eq_false_of_ne_true hbit) hf
  case h_28 hop =>
    obtain ⟨hf, rfl⟩ := decodeVectorLoad_error_iff.mp h
    exact .vectorLoad hop hf
  case h_29 hop =>
    obtain ⟨hf, rfl⟩ := decodeVectorStore_error_iff.mp h
    exact .vectorStore hop hf
  case h_30 =>
    cases h
    exact .primary (by simp_all [primaryOpcodes])
  all_goals cases h

theorem decode_unlisted (h : opField w ∉ primaryOpcodes) : decode w = .error .illegalPrimary := by
  unfold decode
  split
  case h_30 => rfl
  all_goals exact absurd (by rw [‹opField w = _›]; decide) h

theorem decode_error_of_rejects (h : Rejects w r) : decode w = .error r := by
  cases h with
  | primary h => exact decode_unlisted h
  | special hop h => exact (decode_special hop).trans (decodeSpecial_error_iff.mpr ⟨h, rfl⟩)
  | regimm hop h => exact (decode_regimm hop).trans (decodeRegimm_error_iff.mpr ⟨h, rfl⟩)
  | cop0 hop h => exact (decode_cop0 hop).trans (decodeCop0_error_iff.mpr ⟨h, rfl⟩)
  | cop2Move hop hbit h => exact (decode_cop2Move hop hbit).trans (decodeCop2Move_error_iff.mpr ⟨h, rfl⟩)
  | vectorLoad hop h => exact (decode_vectorLoad hop).trans (decodeVectorLoad_error_iff.mpr ⟨h, rfl⟩)
  | vectorStore hop h => exact (decode_vectorStore hop).trans (decodeVectorStore_error_iff.mpr ⟨h, rfl⟩)

/-- A word is ILLEGAL exactly when its fields are in one of the lists' complements. -/
theorem exists_decode_error_iff :
    (∃ r, decode w = .error r) ↔
      opField w ∉ primaryOpcodes ∨
      (opField w = 0x00 ∧ functField w ∉ specialFuncts) ∨
      (opField w = 0x01 ∧ rtField w ∉ regimmOperations) ∨
      (opField w = 0x10 ∧ rsField w ∉ cop0Moves) ∨
      (opField w = 0x12 ∧ w.getLsbD 25 = false ∧ rsField w ∉ cop2Moves) ∨
      (opField w = 0x32 ∧ rdField w ∉ vectorMemoryOps) ∨
      (opField w = 0x3A ∧ rdField w ∉ vectorMemoryOps) := by
  constructor
  · rintro ⟨r, h⟩
    cases rejects_of_decode_error h <;> tauto
  · rintro (h | ⟨hop, h⟩ | ⟨hop, h⟩ | ⟨hop, h⟩ | ⟨hop, hbit, h⟩ | ⟨hop, h⟩ | ⟨hop, h⟩)
    · exact ⟨_, decode_error_of_rejects (.primary h)⟩
    · exact ⟨_, decode_error_of_rejects (.special hop h)⟩
    · exact ⟨_, decode_error_of_rejects (.regimm hop h)⟩
    · exact ⟨_, decode_error_of_rejects (.cop0 hop h)⟩
    · exact ⟨_, decode_error_of_rejects (.cop2Move hop hbit h)⟩
    · exact ⟨_, decode_error_of_rejects (.vectorLoad hop h)⟩
    · exact ⟨_, decode_error_of_rejects (.vectorStore hop h)⟩

/-! ### The fields and the lists in numbers -/

theorem opField_toNat (w : Word) : (opField w).toNat = w.toNat / 2 ^ 26 := by
  rw [opField, BitVec.extractLsb'_toNat, Nat.shiftRight_eq_div_pow]
  omega

theorem rsField_toNat (w : Word) : (rsField w).toNat = w.toNat / 2 ^ 21 % 32 := by
  rw [rsField, BitVec.extractLsb'_toNat, Nat.shiftRight_eq_div_pow]

theorem rtField_toNat (w : Word) : (rtField w).toNat = w.toNat / 2 ^ 16 % 32 := by
  rw [rtField, BitVec.extractLsb'_toNat, Nat.shiftRight_eq_div_pow]

theorem rdField_toNat (w : Word) : (rdField w).toNat = w.toNat / 2 ^ 11 % 32 := by
  rw [rdField, BitVec.extractLsb'_toNat, Nat.shiftRight_eq_div_pow]

theorem functField_toNat (w : Word) : (functField w).toNat = w.toNat % 64 := by
  rw [functField, BitVec.extractLsb'_toNat, Nat.shiftRight_zero]

/-- Bit 25 of a word is the top bit of its move kind. -/
theorem bit4_rsField (w : Word) : (rsField w).getLsbD 4 = w.getLsbD 25 := by
  simp [rsField]

theorem notMem_primaryOpcodes : ∀ op : BitVec 6, op ∉ primaryOpcodes ↔
    op.toNat ∈ [0x11, 0x13, 0x22, 0x26, 0x2A, 0x30, 0x31] ∨ (0x14 ≤ op.toNat ∧ op.toNat ≤ 0x1F) ∨
      (0x2C ≤ op.toNat ∧ op.toNat ≤ 0x2F) ∨ (0x33 ≤ op.toNat ∧ op.toNat ≤ 0x39) ∨ 0x3B ≤ op.toNat := by
  decide

theorem notMem_specialFuncts : ∀ funct : BitVec 6, funct ∉ specialFuncts ↔
    funct.toNat ∈ [0x01, 0x05, 0x28, 0x29] ∨ (0x0A ≤ funct.toNat ∧ funct.toNat ≤ 0x0C) ∨
      (0x0E ≤ funct.toNat ∧ funct.toNat ≤ 0x1F) ∨ 0x2C ≤ funct.toNat := by
  decide

theorem notMem_regimmOperations : ∀ rt : BitVec 5, rt ∉ regimmOperations ↔ rt.toNat ∉ [0x00, 0x01, 0x10, 0x11] := by
  decide

theorem notMem_cop0Moves : ∀ rs : BitVec 5, rs ∉ cop0Moves ↔ rs.toNat ∉ [0x00, 0x04] := by
  decide

theorem notMem_cop2Moves : ∀ rs : BitVec 5, (rs.getLsbD 4 = false ∧ rs ∉ cop2Moves) ↔
    (rs.toNat < 0x10 ∧ rs.toNat ∉ [0x00, 0x02, 0x04, 0x06]) := by
  decide

theorem notMem_vectorMemoryOps : ∀ vop : BitVec 5, vop ∉ vectorMemoryOps ↔ 12 ≤ vop.toNat := by
  decide

/-- Settles O3: the conditions of `exists_decode_error_iff`, one by one in numbers. -/
theorem decodeRejectsExactlyIllegalWords : Obligations.DecodeRejectsExactlyIllegalWords := by
  intro w
  have hop (op : BitVec 6) : opField w = op ↔ (opField w).toNat = op.toNat := BitVec.toNat_inj.symm
  rw [exists_decode_error_iff, ← bit4_rsField, ← opField_toNat, ← rsField_toNat, ← rtField_toNat, ← rdField_toNat,
    ← functField_toNat]
  exact or_congr (notMem_primaryOpcodes _) <|
    or_congr (and_congr (hop 0x00) (notMem_specialFuncts _)) <|
    or_congr (and_congr (hop 0x01) (notMem_regimmOperations _)) <|
    or_congr (and_congr (hop 0x10) (notMem_cop0Moves _)) <|
    or_congr (and_congr (hop 0x12) (notMem_cop2Moves _)) <|
    or_congr (and_congr (hop 0x32) (notMem_vectorMemoryOps _)) <|
    and_congr (hop 0x3A) (notMem_vectorMemoryOps _)

end Sys2Proof
end

section
/-! The row of a word (R123): the decoder tests the bits of one mask of the word, chosen by its primary opcode, and the
word can belong to no row of the opcode table but the one of that mask and those bits. -/

namespace Sys2Proof

/-! ### A word as its fields (R101-R106) -/

theorem formatR_fields (w : Word) :
    formatR (opField w) (rsField w) (rtField w) (rdField w) (saField w) (functField w) = w := by
  rw [formatR, opField, rsField, extract_join w 21 6 5, rtField, extract_join w 16 11 5, rdField,
    extract_join w 11 16 5, saField, extract_join w 6 21 5, functField, extract_join w 0 26 6, extract_all]

theorem formatI_fields (w : Word) : formatI (opField w) (rsField w) (rtField w) (immField w) = w := by
  rw [formatI, opField, rsField, extract_join w 21 6 5, rtField, extract_join w 16 11 5, immField,
    extract_join w 0 16 16, extract_all]

theorem formatVM_fields (w : Word) :
    formatVM (opField w) (rsField w) (rtField w) (rdField w) (byteElemField w) (offsetField w) = w := by
  rw [formatVM, opField, rsField, extract_join w 21 6 5, rtField, extract_join w 16 11 5, rdField,
    extract_join w 11 16 5, byteElemField, extract_join w 7 21 4, offsetField, extract_join w 0 25 7, extract_all]

variable {v w : Word} {i : Instr} {r : DecodeReject}

theorem formatV_fields (hop : opField w = 0x12) (hbit : w.getLsbD 25 = true) :
    formatV (elemField w) (rtField w) (rdField w) (saField w) (functField w) = w := by
  have hop' : 0x12#6 = w.extractLsb' 26 6 := hop.symm
  have hbit' : 1#1 = w.extractLsb' 25 1 := BitVec.eq_of_getLsbD_eq (by simp [hbit])
  rw [formatV, hop', hbit', extract_join w 25 6 1, elemField, extract_join w 21 7 4, rtField, extract_join w 16 11 5,
    rdField, extract_join w 11 16 5, saField, extract_join w 6 21 5, functField, extract_join w 0 26 6, extract_all]

/-- Bit 25 of format I is the top bit of its `rs` field. -/
theorem bit25_formatI (op : BitVec 6) (rs rt : BitVec 5) (imm : BitVec 16) :
    (formatI op rs rt imm).getLsbD 25 = rs.getLsbD 4 :=
  (bit_above _ imm 9).trans <| (bit_above _ rt 4).trans <| bit_within op rs 4 (by decide)

/-! ### A word under the masks of the opcode table -/

theorem and_opMask (w : Word) : w &&& 0xFC000000 = formatI (opField w) 0 0 0 := by
  have h := beq_iff_eq.mp (covers_formatI (opField w) (rsField w) (rtField w) (immField w))
  rwa [formatI_fields] at h

theorem and_functMask (w : Word) : w &&& 0xFC00003F = formatR (opField w) 0 0 0 0 (functField w) := by
  have h := beq_iff_eq.mp
    (covers_formatR (opField w) (functField w) (rsField w) (rtField w) (rdField w) (saField w))
  rwa [formatR_fields] at h

theorem and_rtMask (w : Word) : w &&& 0xFC1F0000 = formatI (opField w) 0 (rtField w) 0 := by
  have h := beq_iff_eq.mp (covers_formatRegimm (opField w) (rsField w) (rtField w) (immField w))
  rwa [formatI_fields] at h

theorem and_rsMask (w : Word) : w &&& 0xFFE00000 = formatI (opField w) (rsField w) 0 0 := by
  have h : formatI (opField w) (rsField w) (rtField w) (immField w) &&& formatI 0x3F 0x1F 0 0 = _ :=
    and_join (and_join (and_join (and_every (opField w)) (and_every (rsField w))) (and_none _)) (and_none _)
  rwa [formatI_fields] at h

theorem and_vopMask (w : Word) : w &&& 0xFC00F800 = formatVM (opField w) 0 0 (rdField w) 0 0 := by
  have h := beq_iff_eq.mp
    (covers_formatVM (opField w) (rsField w) (rtField w) (rdField w) (byteElemField w) (offsetField w))
  rwa [formatVM_fields] at h

theorem and_vectorMask (hop : opField w = 0x12) (hbit : w.getLsbD 25 = true) :
    w &&& 0xFE00003F = formatV 0 0 0 0 (functField w) := by
  have h := beq_iff_eq.mp
    (covers_formatV (elemField w) (rtField w) (rdField w) (saField w) (functField w))
  rwa [formatV_fields hop hbit] at h

/-! ### The row a word can belong to -/

/-- The mask of the bits R113-R119 test in a word. -/
def testedMask (w : Word) : Word :=
  match opField w with
  | 0x00#6 => 0xFC00003F
  | 0x01#6 => 0xFC1F0000
  | 0x10#6 => 0xFFE00000
  | 0x12#6 => if w.getLsbD 25 then 0xFE00003F else 0xFFE00000
  | 0x32#6 => 0xFC00F800
  | 0x3A#6 => 0xFC00F800
  | _ => 0xFC000000

/-- The row of the tested bits of a word. -/
def testedRow (w : Word) : OpcodeRow := ⟨testedMask w, w &&& testedMask w⟩

/-- The primary opcodes that stand for a sub-table (R114-R119). -/
def subTableOpcodes : List (BitVec 6) := [0x00, 0x01, 0x10, 0x12, 0x32, 0x3A]

theorem testedRow_covers (w : Word) : (testedRow w).covers w = true :=
  covers_of_and rfl

theorem testedRow_eq {m p : Word} (hm : testedMask w = m) (hp : w &&& m = p) : testedRow w = ⟨m, p⟩ := by
  rw [testedRow, hm, hp]

theorem testedRow_primary (h : opField w ∉ subTableOpcodes) :
    testedRow w = ⟨0xFC000000, formatI (opField w) 0 0 0⟩ := by
  refine testedRow_eq ?_ (and_opMask w)
  unfold testedMask
  split
  case h_7 => rfl
  all_goals exact absurd (by rw [‹opField w = _›]; decide) h

theorem testedRow_special (hop : opField w = 0x00) :
    testedRow w = ⟨0xFC00003F, formatR 0x00 0 0 0 0 (functField w)⟩ :=
  testedRow_eq (by rw [testedMask, hop]; rfl) (by rw [and_functMask, hop])

theorem testedRow_regimm (hop : opField w = 0x01) : testedRow w = ⟨0xFC1F0000, formatI 0x01 0 (rtField w) 0⟩ :=
  testedRow_eq (by rw [testedMask, hop]; rfl) (by rw [and_rtMask, hop])

theorem testedRow_cop0 (hop : opField w = 0x10) : testedRow w = ⟨0xFFE00000, formatI 0x10 (rsField w) 0 0⟩ :=
  testedRow_eq (by rw [testedMask, hop]; rfl) (by rw [and_rsMask, hop])

theorem testedRow_cop2Move (hop : opField w = 0x12) (hbit : w.getLsbD 25 = false) :
    testedRow w = ⟨0xFFE00000, formatI 0x12 (rsField w) 0 0⟩ :=
  testedRow_eq (by rw [testedMask, hop, hbit]; rfl) (by rw [and_rsMask, hop])

theorem testedRow_vector (hop : opField w = 0x12) (hbit : w.getLsbD 25 = true) :
    testedRow w = ⟨0xFE00003F, formatV 0 0 0 0 (functField w)⟩ :=
  testedRow_eq (by rw [testedMask, hop, hbit]; rfl) (and_vectorMask hop hbit)

theorem testedRow_vectorLoad (hop : opField w = 0x32) :
    testedRow w = ⟨0xFC00F800, formatVM 0x32 0 0 (rdField w) 0 0⟩ :=
  testedRow_eq (by rw [testedMask, hop]; rfl) (by rw [and_vopMask, hop])

theorem testedRow_vectorStore (hop : opField w = 0x3A) :
    testedRow w = ⟨0xFC00F800, formatVM 0x3A 0 0 (rdField w) 0 0⟩ :=
  testedRow_eq (by rw [testedMask, hop]; rfl) (by rw [and_vopMask, hop])

/-! ### The row of a decoded instruction -/

theorem row_of_decodeSpecial (h : decodeSpecial w = .ok i) :
    i.row = ⟨0xFC00003F, formatR 0x00 0 0 0 0 (functField w)⟩ := by
  unfold decodeSpecial at h
  split at h <;> cases h
  all_goals rw [‹functField w = _›]; rfl

theorem row_of_decodeRegimm (h : decodeRegimm w = .ok i) : i.row = ⟨0xFC1F0000, formatI 0x01 0 (rtField w) 0⟩ := by
  unfold decodeRegimm at h
  split at h <;> cases h
  all_goals rw [‹rtField w = _›]; rfl

theorem row_of_decodeCop0 (h : decodeCop0 w = .ok i) : i.row = ⟨0xFFE00000, formatI 0x10 (rsField w) 0 0⟩ := by
  unfold decodeCop0 at h
  split at h <;> cases h
  all_goals rw [‹rsField w = _›]; rfl

theorem row_of_decodeCop2Move (h : decodeCop2Move w = .ok i) :
    i.row = ⟨0xFFE00000, formatI 0x12 (rsField w) 0 0⟩ := by
  unfold decodeCop2Move at h
  split at h <;> cases h
  all_goals rw [‹rsField w = _›]; rfl

theorem row_of_decodeVectorLoad (h : decodeVectorLoad w = .ok i) :
    i.row = ⟨0xFC00F800, formatVM 0x32 0 0 (rdField w) 0 0⟩ := by
  unfold decodeVectorLoad at h
  split at h <;> cases h
  all_goals rw [‹rdField w = _›]; rfl

theorem row_of_decodeVectorStore (h : decodeVectorStore w = .ok i) :
    i.row = ⟨0xFC00F800, formatVM 0x3A 0 0 (rdField w) 0 0⟩ := by
  unfold decodeVectorStore at h
  split at h <;> cases h
  all_goals rw [‹rdField w = _›]; rfl

theorem row_decodeVector (w : Word) : (decodeVector w).row = ⟨0xFE00003F, formatV 0 0 0 0 (functField w)⟩ := by
  unfold decodeVector
  split
  case h_64 =>
    have hlast : functField w = 0x3F#6 := by
      simp only [imp_false] at *
      bv_omega
    rw [hlast]; rfl
  all_goals rw [‹functField w = _›]; rfl

theorem row_of_decode (h : decode w = .ok i) : i.row = testedRow w := by
  unfold decode at h
  split at h
  case h_1 hop => exact (row_of_decodeSpecial h).trans (testedRow_special hop).symm
  case h_2 hop => exact (row_of_decodeRegimm h).trans (testedRow_regimm hop).symm
  case h_17 hop => exact (row_of_decodeCop0 h).trans (testedRow_cop0 hop).symm
  case h_18 hop =>
    split at h
    case isTrue hbit =>
      cases h
      exact (row_decodeVector w).trans (testedRow_vector hop hbit).symm
    case isFalse hbit =>
      exact (row_of_decodeCop2Move h).trans (testedRow_cop2Move hop (eq_false_of_ne_true hbit)).symm
  case h_28 hop => exact (row_of_decodeVectorLoad h).trans (testedRow_vectorLoad hop).symm
  case h_29 hop => exact (row_of_decodeVectorStore h).trans (testedRow_vectorStore hop).symm
  case h_30 => cases h
  all_goals
    cases h
    rw [testedRow_primary (by rw [‹opField w = _›]; decide), ‹opField w = _›]
    rfl

/-! ### The rows of the table -/

theorem row_mem_opcodeTable (i : Instr) : i.row ∈ opcodeTable := by
  cases i <;> exact List.mem_of_elem_eq_true rfl

/-- The pattern of each row is a word of the row's own instruction: the rows stand in the order of the instructions. -/
theorem opcodeTable_decodes :
    (opcodeTable.map fun row => (decode row.pattern).map Instr.ctorIdx) = (List.range 140).map .ok := by
  rfl

/-- The mask of each row is the one R113-R119 test in its pattern. -/
theorem opcodeTable_masks : (opcodeTable.all fun row => row.mask == testedMask row.pattern) = true := by
  rfl

theorem opcodeTable_length : opcodeTable.length = 140 := by
  simpa using congrArg List.length opcodeTable_decodes

theorem opcodeTable_nodup : opcodeTable.Nodup :=
  .of_map _ (opcodeTable_decodes ▸ List.nodup_range.map fun _ _ h => Except.ok.inj h)

theorem decode_pattern {row : OpcodeRow} (hrow : row ∈ opcodeTable) : ∃ i, decode row.pattern = .ok i := by
  have hmap : (decode row.pattern).map Instr.ctorIdx ∈ (List.range 140).map .ok :=
    opcodeTable_decodes ▸ List.mem_map_of_mem hrow
  obtain ⟨n, -, hn⟩ := List.mem_map.mp hmap
  cases h : decode row.pattern with
  | ok i => exact ⟨i, rfl⟩
  | error r =>
    rw [h] at hn
    cases hn

/-! ### A covered word is tested by the mask of its row -/

theorem opField_and (v w : Word) : opField (v &&& w) = opField v &&& opField w := BitVec.extractLsb'_and

theorem opField_testedMask (w : Word) : opField (testedMask w) = .allOnes 6 := by
  unfold testedMask
  split
  case h_4 => split <;> rfl
  all_goals rfl

theorem bit25_testedMask (hop : opField w = 0x12) : (testedMask w).getLsbD 25 = true := by
  cases hbit : w.getLsbD 25 <;> rw [testedMask, hop, hbit] <;> rfl

theorem testedMask_congr (hop : opField v = opField w)
    (hbit : opField w = 0x12 → v.getLsbD 25 = w.getLsbD 25) : testedMask v = testedMask w := by
  unfold testedMask
  rw [hop]
  split
  case h_4 h12 => rw [hbit h12]
  all_goals rfl

theorem eq_testedRow_of_covers {row : OpcodeRow} (hrow : row ∈ opcodeTable) (h : row.covers w = true) :
    row = testedRow w := by
  have hmask : row.mask = testedMask row.pattern := beq_iff_eq.mp (List.all_eq_true.mp opcodeTable_masks row hrow)
  have hbits : w &&& row.mask = row.pattern := beq_iff_eq.mp h
  have hop : opField row.pattern = opField w := by
    rw [← hbits, opField_and, hmask, opField_testedMask, BitVec.and_allOnes]
  have hbit (h12 : opField w = 0x12) : row.pattern.getLsbD 25 = w.getLsbD 25 := by
    rw [← hbits, BitVec.getLsbD_and, hmask, bit25_testedMask (hop.trans h12), Bool.and_true]
  have hmask' : row.mask = testedMask w := hmask.trans (testedMask_congr hop hbit)
  rw [testedRow, ← hmask', hbits]

/-- The tested bits of a rejected word are rejected for the same reason. -/
theorem Rejects.tested (h : Rejects w r) : Rejects (testedRow w).pattern r := by
  cases h with
  | primary h =>
    have hsub : subTableOpcodes ⊆ primaryOpcodes := by decide
    rw [testedRow_primary fun hs => h (hsub hs)]
    exact .primary (by rwa [opField_formatI])
  | special hop h =>
    rw [testedRow_special hop]
    exact .special (opField_formatR ..) (by rwa [functField_formatR])
  | regimm hop h =>
    rw [testedRow_regimm hop]
    exact .regimm (opField_formatI ..) (by rwa [rtField_formatI])
  | cop0 hop h =>
    rw [testedRow_cop0 hop]
    exact .cop0 (opField_formatI ..) (by rwa [rsField_formatI])
  | cop2Move hop hbit h =>
    rw [testedRow_cop2Move hop hbit]
    exact .cop2Move (opField_formatI ..) ((bit25_formatI ..).trans ((bit4_rsField w).trans hbit))
      (by rwa [rsField_formatI])
  | vectorLoad hop h =>
    rw [testedRow_vectorLoad hop]
    exact .vectorLoad (opField_formatVM ..) (by rwa [rdField_formatVM])
  | vectorStore hop h =>
    rw [testedRow_vectorStore hop]
    exact .vectorStore (opField_formatVM ..) (by rwa [rdField_formatVM])

/-- A rejected word belongs to no row: the pattern of the row would be rejected too. -/
theorem Rejects.not_covers (h : Rejects w r) {row : OpcodeRow} (hrow : row ∈ opcodeTable) : row.covers w = false := by
  refine eq_false_of_ne_true fun hc => ?_
  obtain ⟨i, hi⟩ := decode_pattern hrow
  rw [eq_testedRow_of_covers hrow hc, decode_error_of_rejects h.tested] at hi
  cases hi

/-- Settles O2: a decoded word belongs to the row of its tested bits, a rejected word to no row, and two rows of one word
are the same row. -/
theorem decodeFollowsOpcodeTable : Obligations.DecodeFollowsOpcodeTable := by
  refine ⟨fun w => ⟨fun i h => ⟨row_mem_opcodeTable i, ?_⟩, fun r h => ?_⟩, opcodeTable_length, ?_⟩
  · rw [row_of_decode h]
    exact testedRow_covers w
  · have hr := rejects_of_decode_error h
    exact ⟨fun ht => (nomatch ht ▸ hr), fun row hrow => hr.not_covers hrow⟩
  · refine opcodeTable_nodup.imp_of_mem fun hp hq hne w hpq => hne ?_
    exact (eq_testedRow_of_covers hp hpq.1).trans (eq_testedRow_of_covers hq hpq.2).symm

end Sys2Proof
end

section
/-! The helpers of R12 in numbers: saturation, the accumulator clamps and the element selector (R112). -/

namespace Sys2Proof.Machine

theorem sat16_toInt (x : Int) : (sat16 x).toInt = max (-32768) (min 32767 x) := by
  rw [sat16, trunc16, BitVec.toInt_ofInt, Int.bmod_eq_of_le_mul_two (by omega) (by omega)]
  omega

/-- The middle and high planes of an accumulator lane, as a number, are the floor of its 65536th part. -/
theorem mid_eq_floor (a : AccLane) : mid a = a.toInt / 65536 := by
  have ha := a.isLt
  rw [mid, BitVec.toInt_eq_toNat_cond, BitVec.toInt_eq_toNat_cond, BitVec.extractLsb'_toNat,
    Nat.shiftRight_eq_div_pow]
  omega

theorem clampS_eq (a : AccLane) : clampS a = sat16 (a.toInt / 65536) := by
  rw [clampS, mid_eq_floor]

theorem clampU_toNat (a : AccLane) :
    (clampU a).toNat =
      if a.toInt / 65536 < 0 then 0 else if 32767 < a.toInt / 65536 then 0xFFFF
      else a.toNat / 65536 % 65536 := by
  rw [clampU, mid_eq_floor, apply_ite BitVec.toNat, apply_ite BitVec.toNat, BitVec.extractLsb'_toNat,
    Nat.shiftRight_eq_div_pow]
  rfl

theorem clampL_toNat (a : AccLane) :
    (clampL a).toNat =
      if a.toInt / 65536 < -32768 then 0 else if 32767 < a.toInt / 65536 then 0xFFFF
      else a.toNat % 65536 := by
  rw [clampL, mid_eq_floor, apply_ite BitVec.toNat, apply_ite BitVec.toNat, BitVec.extractLsb'_toNat,
    Nat.shiftRight_zero]
  rfl

/-- Settles O5: the helpers one by one in numbers; the selector's table is evaluated. -/
theorem vectorHelpers : Obligations.VectorHelpers :=
  ⟨sat16_toInt, fun a => ⟨clampS_eq a, clampU_toNat a, clampL_toNat a⟩, by decide⟩

end Sys2Proof.Machine
end

section
/-! The scalar unit's arithmetic, logic and shifts in numbers (40_scalar_alu.md, R140-R166): each operation of the model
as the rule's own formula, and the instruction that writes it. -/

namespace Sys2Proof.Machine

/-! ### The shape of the family -/

/-- A word whose instruction's one effect is `x[r] <- v`, with `v` in the rule's own terms (R140). -/
theorem means_writesX {w : Word} {i : Instr} {s : State} {r : Reg} {v v' : Word} (hdecode : decode w = .ok i)
    (hexec : exec i s = s.writeX r v) (hv : v = v') : Means w i s (fun t => WritesX s t r v') := by
  refine ⟨hdecode, ?_⟩
  rw [Completes, hexec, ← hv]
  exact writeX_spec s r v

/-! ### Sums and differences mod 2^32 (R141) -/

theorem sub_eq_ofInt (a b : Word) : a - b = BitVec.ofInt 32 (a.toNat - b.toNat) := by
  rw [Int.sub_eq_add_neg, BitVec.ofInt_add, BitVec.ofInt_neg, BitVec.ofInt_natCast, BitVec.ofInt_natCast,
    BitVec.ofNat_toNat, BitVec.ofNat_toNat, BitVec.setWidth_eq, BitVec.setWidth_eq, BitVec.sub_eq_add_neg]

/-- A sign-extended immediate is added as the signed number it is (R107). -/
theorem add_simm (a : Word) (imm : BitVec 16) : a + simm imm = BitVec.ofInt 32 (a.toNat + imm.toInt) := by
  rw [BitVec.ofInt_add, BitVec.ofInt_natCast, BitVec.ofNat_toNat, BitVec.setWidth_eq, simm, BitVec.signExtend]

/-! ### Comparisons (R150) -/

theorem boolWord_decide (p : Prop) [Decidable p] : boolWord (decide p) = if p then 1 else 0 := by
  rw [boolWord]
  simp only [decide_eq_true_eq]

theorem boolWord_slt (a b : Word) : boolWord (a.slt b) = if a.toInt < b.toInt then 1 else 0 := by
  rw [BitVec.slt_eq_decide, boolWord_decide]

theorem boolWord_ult (a b : Word) : boolWord (a.ult b) = if a.toNat < b.toNat then 1 else 0 := by
  rw [BitVec.ult_eq_decide, boolWord_decide]

theorem simm_toInt (imm : BitVec 16) : (simm imm).toInt = imm.toInt :=
  BitVec.toInt_signExtend_of_le (by decide)

/-! ### Shifts as products and floor quotients (R152-R154) -/

theorem shiftLeft_eq_mul (a : Word) (n : Nat) : a <<< n = BitVec.ofNat 32 (a.toNat * 2 ^ n) := by
  rw [← Nat.shiftLeft_eq, ← BitVec.shiftLeft_eq, BitVec.shiftLeft]

theorem ushiftRight_eq_div (a : Word) (n : Nat) : a >>> n = BitVec.ofNat 32 (a.toNat / 2 ^ n) := by
  rw [← Nat.shiftRight_eq_div_pow, ← BitVec.toNat_ushiftRight, BitVec.ofNat_toNat, BitVec.setWidth_eq]

theorem sshiftRight_eq_floor (a : Word) (n : Nat) :
    a.sshiftRight n = BitVec.ofInt 32 (a.toInt / 2 ^ n) := by
  rw [BitVec.sshiftRight_eq, Int.shiftRight_eq_div_pow, Nat.cast_pow, Nat.cast_ofNat]

/-- A variable amount is taken mod 32 (R109). -/
theorem shiftAmount_eq (s : State) (rs : Reg) : s.shiftAmount rs = (s.x rs).toNat % 32 := by
  rw [State.shiftAmount, extract_zero, BitVec.toNat_setWidth]

/-! ### Zero-extended and upper immediates (R108, R165) -/

theorem and_zimm (a : Word) (imm : BitVec 16) : a &&& zimm imm = BitVec.ofNat 32 (a.toNat &&& imm.toNat) := by
  rw [BitVec.ofNat_and, BitVec.ofNat_toNat, BitVec.ofNat_toNat, BitVec.setWidth_eq, zimm]

theorem or_zimm (a : Word) (imm : BitVec 16) : a ||| zimm imm = BitVec.ofNat 32 (a.toNat ||| imm.toNat) := by
  rw [BitVec.ofNat_or, BitVec.ofNat_toNat, BitVec.ofNat_toNat, BitVec.setWidth_eq, zimm]

theorem xor_zimm (a : Word) (imm : BitVec 16) : a ^^^ zimm imm = BitVec.ofNat 32 (a.toNat ^^^ imm.toNat) := by
  rw [BitVec.ofNat_xor, BitVec.ofNat_toNat, BitVec.ofNat_toNat, BitVec.setWidth_eq, zimm]

theorem upper_eq_mul (imm : BitVec 16) : imm ++ 0#16 = BitVec.ofNat 32 (imm.toNat * 65536) := by
  apply BitVec.eq_of_toNat_eq
  have := imm.isLt
  rw [BitVec.toNat_append, BitVec.toNat_zero, Nat.or_zero, Nat.shiftLeft_eq, BitVec.toNat_ofNat]
  omega

/-! ### The obligations -/

/-- Settles O8: each word's instruction writes one register, a sum or difference as the number it is mod 2^32. -/
theorem registerArithmeticAndLogic : Obligations.RegisterArithmeticAndLogic := fun _ rd rs rt sa =>
  ⟨means_writesX (decode_add rs rt rd sa) rfl (BitVec.add_def ..),
   means_writesX (decode_addu rs rt rd sa) rfl (BitVec.add_def ..),
   means_writesX (decode_sub rs rt rd sa) rfl (sub_eq_ofInt ..),
   means_writesX (decode_subu rs rt rd sa) rfl (sub_eq_ofInt ..),
   means_writesX (decode_and rs rt rd sa) rfl rfl,
   means_writesX (decode_or rs rt rd sa) rfl rfl,
   means_writesX (decode_xor rs rt rd sa) rfl rfl,
   means_writesX (decode_nor rs rt rd sa) rfl rfl⟩

/-- Settles O9: each word's instruction writes one register, and words compare as their numbers. -/
theorem setOnLessThan : Obligations.SetOnLessThan := fun _ rd rs rt sa imm =>
  ⟨means_writesX (decode_slt rs rt rd sa) rfl (boolWord_slt ..),
   means_writesX (decode_sltu rs rt rd sa) rfl (boolWord_ult ..),
   means_writesX (decode_slti rs rt imm) rfl (simm_toInt imm ▸ boolWord_slt ..),
   means_writesX (decode_sltiu rs rt imm) rfl (boolWord_ult ..)⟩

/-- Settles O10: each word's instruction writes one register, and a shift is a product or a floor quotient. -/
theorem scalarShifts : Obligations.ScalarShifts := fun s rd rs rt sa =>
  ⟨means_writesX (decode_sll rs rt rd sa) rfl (shiftLeft_eq_mul ..),
   means_writesX (decode_srl rs rt rd sa) rfl (ushiftRight_eq_div ..),
   means_writesX (decode_sra rs rt rd sa) rfl (sshiftRight_eq_floor ..),
   means_writesX (decode_sllv rs rt rd sa) rfl (shiftAmount_eq s rs ▸ shiftLeft_eq_mul ..),
   means_writesX (decode_srlv rs rt rd sa) rfl (shiftAmount_eq s rs ▸ ushiftRight_eq_div ..),
   means_writesX (decode_srav rs rt rd sa) rfl (shiftAmount_eq s rs ▸ sshiftRight_eq_floor ..)⟩

/-- Settles O11: each word's instruction writes one register, from its immediate as the number it stands for. -/
theorem immediateForms : Obligations.ImmediateForms := fun _ rs rt imm =>
  ⟨means_writesX (decode_addi rs rt imm) rfl (add_simm ..),
   means_writesX (decode_addiu rs rt imm) rfl (add_simm ..),
   means_writesX (decode_andi rs rt imm) rfl (and_zimm ..),
   means_writesX (decode_ori rs rt imm) rfl (or_zimm ..),
   means_writesX (decode_xori rs rt imm) rfl (xor_zimm ..),
   means_writesX (decode_lui rs rt imm) rfl (upper_eq_mul imm)⟩

/-- Settles O4: the decoder, evaluated on each word. -/
theorem specWordsDecode : Obligations.SpecWordsDecode := by
  refine ⟨?_, ?_, ?_, ?_, ?_, ?_, ?_, ?_, ?_, ?_, ?_, ?_, ?_, ?_, ?_, ?_, ?_, ?_, ?_, ?_⟩ <;> rfl

end Sys2Proof.Machine
end

section
/-! Jumps and branches (41_scalar_branch.md, R180-R196): the targets and conditions in the rules' own terms, which
instructions are refused in a delay slot, and the two cycles of a transfer and its slot. -/

namespace Sys2Proof.Machine

variable {s t : State} {i : Instr}

/-! ### Word addresses in numbers (R34) -/

/-- The mask of a word address keeps its word of the 1024 in IMEM. -/
theorem masked_toNat (v : Word) : (v &&& 0xFFC).toNat = v.toNat / 4 % 1024 * 4 := by
  obtain ⟨word, place, h⟩ := regionAddr_eq_append (v.setWidth 12)
  have hv := congrArg BitVec.toNat h
  have hw := word.isLt
  have hp := place.isLt
  have hmask : (word ++ place) &&& (0xFFC : RegionAddr) = word ++ 0#2 := and_join (and_every word) (and_none place)
  rw [regionAddr_toNat, toNat_append_place] at hv
  rw [← masked_word, h, hmask, BitVec.toNat_setWidth, toNat_append_place, BitVec.toNat_zero]
  omega

/-- The words after `P` are counted around IMEM (R35): the next word's next word is `P + 8`. -/
theorem nextWord_next (h : t.pc = nextWord s) : nextWord t = (cyclePc s + 8) &&& 0xFFC := by
  have h4 : (4 : Word).toNat = 4 := rfl
  have h8 : (8 : Word).toNat = 8 := rfl
  apply BitVec.eq_of_toNat_eq
  rw [nextWord, cyclePc, h, nextWord]
  simp only [masked_toNat, BitVec.toNat_add, h4, h8]
  omega

/-! ### Targets (R108, R181, R187) -/

theorem jumpTarget_word (target : BitVec 26) :
    (jumpTarget target).setWidth 32 = BitVec.ofNat 32 (target.toNat % 1024 * 4) := by
  apply BitVec.eq_of_toNat_eq
  rw [jumpTarget, masked_word, masked_toNat, BitVec.toNat_shiftLeft, BitVec.toNat_setWidth, BitVec.toNat_ofNat,
    Nat.shiftLeft_eq]
  omega

theorem branchTarget_word (s : State) (imm : BitVec 16) :
    (s.branchTarget imm).setWidth 32 =
      BitVec.ofInt 32 ((cyclePc s).toNat + 4 + imm.toInt * 4) &&& 0xFFC := by
  have hscale : simm imm <<< 2 = BitVec.ofInt 32 (imm.toInt * 4) := by
    rw [BitVec.ofInt_mul, simm, BitVec.signExtend, BitVec.shiftLeft_eq_mul_twoPow]
    rfl
  rw [State.branchTarget, masked_word, fetchAddr_word, hscale, BitVec.ofInt_add, BitVec.ofInt_add,
    BitVec.ofInt_natCast, BitVec.ofNat_toNat, BitVec.setWidth_eq]
  rfl

/-! ### The shape of the family -/

/-- A word whose instruction is a control transfer that writes no register, with its condition and target in the
rule's own terms (R180). -/
theorem means_jump {w : Word} {taken taken' : Bool} {target : RegionAddr} {target' : Word} (hp : s.pend = .none)
    (hdecode : decode w = .ok i) (hexec : exec i s = s.jump taken target) (htaken : taken = taken')
    (htarget : target.setWidth 32 = target') : Means w i s (fun t => JumpsTo s t none taken' target') := by
  refine ⟨hdecode, ?_⟩
  rw [Completes, hexec, ← htaken, ← htarget]
  exact jump_spec hp taken target

/-- The same of a control transfer that writes the link value (R180, R182). -/
theorem means_jumpAndLink {w : Word} {rd : Reg} {taken : Bool} {target : RegionAddr} {target' : Word}
    (hp : s.pend = .none) (hdecode : decode w = .ok i) (hexec : exec i s = s.jumpAndLink rd taken target)
    (htarget : target.setWidth 32 = target') : Means w i s (fun t => JumpsTo s t (some rd) taken target') := by
  refine ⟨hdecode, ?_⟩
  rw [Completes, hexec, ← htarget]
  exact jumpAndLink_spec hp rd taken target

/-- Settles O12: each word's instruction transfers to a target that is the rule's. -/
theorem jumps : Obligations.Jumps := fun _ target rs rt rd sa hp =>
  ⟨means_jump hp (decode_j target) rfl rfl (jumpTarget_word target),
   means_jumpAndLink hp (decode_jal target) rfl (jumpTarget_word target),
   means_jump hp (decode_jr rs rt rd sa) rfl rfl (masked_word _),
   means_jumpAndLink hp (decode_jalr rs rt rd sa) rfl (masked_word _)⟩

/-- Settles O13: each word's instruction transfers on the rule's condition to the rule's target. -/
theorem branches : Obligations.Branches := fun s rs rt imm hp =>
  ⟨means_jump hp (decode_beq rs rt imm) rfl rfl (branchTarget_word s imm),
   means_jump hp (decode_bne rs rt imm) rfl (decide_not ..).symm (branchTarget_word s imm),
   means_jump hp (decode_blez rs rt imm) rfl rfl (branchTarget_word s imm),
   means_jump hp (decode_bgtz rs rt imm) rfl rfl (branchTarget_word s imm),
   means_jump hp (decode_bltz rs imm) rfl rfl (branchTarget_word s imm),
   means_jump hp (decode_bgez rs imm) rfl rfl (branchTarget_word s imm),
   means_jumpAndLink hp (decode_bltzal rs imm) rfl (branchTarget_word s imm),
   means_jumpAndLink hp (decode_bgezal rs imm) rfl (branchTarget_word s imm)⟩

/-! ### Refusals (R183, R446) -/

/-- Every control transfer completes to some state or is refused by the delay-slot test alone. -/
theorem exec_cti (hi : i.isCti = true) (s : State) : ∃ t, exec i s = s.unlessInSlot t := by
  cases i with
  | j | jal | jr | jalr | beq | bne | blez | bgtz | bltz | bgez | bltzal | bgezal => exact ⟨_, rfl⟩
  | _ => cases hi

/-- An instruction that is no control transfer completes in every state. -/
theorem exec_completes (hi : i.isCti = false) (s : State) : ∃ t, exec i s = .next t := by
  have he := exec_ends i s
  generalize exec i s = r at he
  cases he with
  | retires => exact ⟨_, rfl⟩
  | transfers _ hc | refuses hc => rw [hi] at hc; cases hc

/-- Settles O14: a control transfer is decided by the delay-slot test, and nothing else can refuse. -/
theorem refusesExactlyTransfersInSlots : Obligations.RefusesExactlyTransfersInSlots := by
  refine fun i s => ⟨fun ⟨hi, hp⟩ => ?_, fun h => ?_⟩
  · obtain ⟨t, ht⟩ := exec_cti hi s
    rw [ht, unlessInSlot_slot hp]
  · cases hi : i.isCti with
    | false => exact exec_completes hi s
    | true =>
      obtain ⟨t, ht⟩ := exec_cti hi s
      have hp : s.pend = .none := not_not.mp fun hp => h ⟨hi, hp⟩
      exact ⟨t, ht.trans (unlessInSlot_none hp t)⟩

/-! ### The delay slot (R180, R413) -/

/-- A completed control transfer ends its cycle as one. -/
theorem exec_transfers (hi : i.isCti = true) (h : exec i s = .next t) :
    ∃ taken target, Transfers s t taken target := by
  have he : Ends i s (.next t) := h ▸ exec_ends i s
  cases he with
  | retires _ hc => rw [hi] at hc; cases hc
  | transfers hu _ hp =>
    exact ⟨_, _, transfers_transfer hu.pc (hu.pend.trans hp) hu.cycles hu.cfg _ _⟩

/-- A completed instruction that is no control transfer retires. -/
theorem exec_retires (hi : i.isCti = false) (h : exec i s = .next t) : Retires s t := by
  have he : Ends i s (.next t) := h ▸ exec_ends i s
  cases he with
  | retires hu => exact retires_retire hu.pc hu.pend hu.cycles
  | transfers _ hc => rw [hi] at hc; cases hc

/-- Settles O16: the transfer leaves its target pending, and the next instruction retires to it. -/
theorem delaySlotRunsBeforeTransfer : Obligations.DelaySlotRunsBeforeTransfer := by
  intro s t u i j hi hs
  obtain ⟨taken, target, hslot, hnoSlot, hcount⟩ := exec_transfers hi hs
  refine ⟨fun hd => (hnoSlot hd).2, fun hd hj ht => ?_⟩
  obtain ⟨hpc, hpend⟩ := hslot hd
  obtain ⟨htaken, huntaken, hdone, hcount'⟩ := exec_retires hj ht
  refine ⟨hpc, ⟨_, hpend, ?_⟩, hdone, by rw [hcount', hcount]⟩
  cases taken with
  | true => exact htaken _ hpend
  | false => exact (huntaken fun _ h => by rw [hpend] at h; cases h).trans (nextWord_next hpc)

end Sys2Proof.Machine
end

section
/-! Scalar loads and stores (42_scalar_loadstore.md, R200-R212): effective addresses and 16-byte windows in numbers, and
each instruction as the register write or the store of its rule. -/

namespace Sys2Proof.Machine

/-! ### Low bits and boundaries in numbers -/

/-- Clearing the `n` low bits leaves the multiple of `2 ^ n` at or below. -/
theorem clearLow_toNat {w : Nat} (x : BitVec w) (n : Nat) :
    (x &&& BitVec.allOnes w <<< n).toNat = x.toNat / 2 ^ n * 2 ^ n := by
  have hle : x.toNat / 2 ^ n * 2 ^ n < 2 ^ w := (Nat.div_mul_le_self ..).trans_lt x.isLt
  rw [← BitVec.shiftLeft_ushiftRight, BitVec.toNat_shiftLeft, BitVec.toNat_ushiftRight,
    Nat.shiftRight_eq_div_pow, Nat.shiftLeft_eq, Nat.mod_eq_of_lt hle]

theorem quadBase_toNat (addr : Word) : (quadBase addr).toNat = addr.toNat / 16 * 16 := clearLow_toNat addr 4

theorem windowBase_toNat (addr : Word) : (windowBase addr).toNat = addr.toNat / 8 * 8 := clearLow_toNat addr 3

theorem evenElem_toNat (e : Elem) : (e &&& ~~~1).toNat = e.toNat / 2 * 2 := clearLow_toNat e 1

theorem quadOffset_eq (addr : Word) : quadOffset addr = addr.toNat % 16 :=
  Nat.and_two_pow_sub_one_eq_mod addr.toNat 4

/-- The place of an address in its 8-byte word, as a byte of the 16-byte window. -/
theorem windowPlace_toNat (addr : Word) : ((addr &&& 7).setWidth 4 : Elem).toNat = addr.toNat % 8 := by
  have hlow : (addr &&& 7).toNat = addr.toNat % 8 := Nat.and_two_pow_sub_one_eq_mod addr.toNat 3
  rw [BitVec.toNat_setWidth, hlow]
  omega

/-! ### Effective addresses (R200, R370) -/

theorem vaddr_eq (s : State) (base : Reg) (offset : BitVec 7) (scale : Nat) :
    s.vaddr base offset scale = BitVec.ofInt 32 ((s.x base).toNat + offset.toInt * scale) := by
  rw [State.vaddr, BitVec.ofInt_add, BitVec.ofInt_mul, BitVec.ofInt_natCast, BitVec.ofInt_natCast,
    BitVec.ofNat_toNat, BitVec.setWidth_eq, BitVec.signExtend]

/-! ### The bytes of a window (R376, R388, R391) -/

theorem windowByte_eq (addr : Word) (i : Elem) :
    windowByte (windowBase addr) i = BitVec.ofNat 32 (addr.toNat / 8 * 8 + i.toNat) := by
  rw [windowByte, BitVec.add_def, windowBase_toNat, BitVec.toNat_setWidth_of_le (by decide)]

theorem windowAddr_eq (addr : Word) (i : Nat) :
    windowAddr addr i = BitVec.ofNat 32 (addr.toNat / 8 * 8 + (addr.toNat % 8 + i) % 16) := by
  rw [windowAddr, windowByte_eq, BitVec.toNat_add, windowPlace_toNat, BitVec.toNat_ofNat, Nat.add_mod_mod]

theorem transposedStoreAddr_eq (addr : Word) (e : Elem) (m : Nat) :
    transposedStoreAddr addr e m =
      BitVec.ofNat 32 (addr.toNat / 8 * 8 + (addr.toNat % 8 + 16 - e.toNat / 2 * 2 + m) % 16) := by
  have he := e.isLt
  have hindex : ((addr &&& 7).setWidth 4 - (e &&& ~~~1) + BitVec.ofNat 4 m : Elem).toNat =
      (addr.toNat % 8 + 16 - e.toNat / 2 * 2 + m) % 16 := by
    rw [BitVec.toNat_add, BitVec.toNat_sub, windowPlace_toNat, evenElem_toNat, BitVec.toNat_ofNat]
    omega
  rw [transposedStoreAddr, windowByte_eq, hindex]

/-- Settles O6: the two effective addresses, the boundaries and the windows one by one, and the two memories. -/
theorem addressArithmetic : Obligations.AddressArithmetic :=
  ⟨fun s base imm => add_simm (s.x base) imm, vaddr_eq,
   fun addr => ⟨quadOffset_eq addr, quadBase_toNat addr, windowBase_toNat addr⟩,
   windowAddr_eq, transposedStoreAddr_eq, fun s _ _ h => ⟨dm_congr s h, im_congr s h⟩⟩

/-! ### Loads (R203-R208) -/

/-- Settles O17: each word's instruction writes one register from the bytes it reads. -/
theorem scalarLoads : Obligations.ScalarLoads := fun s rt base imm =>
  ⟨means_writesX (decode_lb base rt imm) rfl (congrArg (BitVec.signExtend 32) (memRead_one s _)),
   means_writesX (decode_lh base rt imm) rfl (congrArg (BitVec.signExtend 32) (memRead_two s _)),
   means_writesX (decode_lw base rt imm) rfl (memRead_four s _),
   means_writesX (decode_lbu base rt imm) rfl (congrArg (BitVec.setWidth 32) (memRead_one s _)),
   means_writesX (decode_lhu base rt imm) rfl (congrArg (BitVec.setWidth 32) (memRead_two s _)),
   means_writesX (decode_lwu base rt imm) rfl (memRead_four s _)⟩

/-! ### Stores (R209-R211) -/

/-- Only the bytes below the count of a store matter. -/
theorem stores_congr {s t : State} {n : Nat} {addr : Nat → Word} {b b' : Nat → Byte} (hb : ∀ k < n, b k = b' k)
    (h : Stores s t n addr b) : Stores s t n addr b' := by
  obtain ⟨hbytes, hframe⟩ := h
  exact ⟨fun k hk => (hbytes k hk).trans (hb k hk), hframe⟩

/-- The cycle of a big-endian store of at most 4096 bytes (R75). -/
theorem memWrite_spec (s : State) (a : Word) {n : Nat} (v : BitVec (8 * n)) (hn : n ≤ 4096) :
    Stores s (s.memWrite a n v).retire n (fun k => a + BitVec.ofNat 32 k)
      (fun k => v.extractLsb' (8 * (n - 1 - k)) 8) :=
  store_spec s n _ _ (runAddr_distinct a n hn)

/-- A word whose instruction stores the `n` bytes of `v`, most significant first, with each byte in the rule's terms. -/
theorem means_memWrite {w : Word} {i : Instr} {s : State} {a : Word} {n : Nat} {v : BitVec (8 * n)} {b : Nat → Byte}
    (hdecode : decode w = .ok i) (hexec : exec i s = .next (s.memWrite a n v).retire) (hn : n ≤ 4096)
    (hb : ∀ k < n, v.extractLsb' (8 * (n - 1 - k)) 8 = b k) :
    Means w i s (fun t => Stores s t n (fun k => a + BitVec.ofNat 32 k) b) :=
  ⟨hdecode, _, hexec, stores_congr hb (memWrite_spec s a v hn)⟩

/-- Settles O18: each word's instruction stores the low bytes of its register, byte by byte a field of the register. -/
theorem scalarStores : Obligations.ScalarStores := fun s rt base imm =>
  ⟨means_memWrite (decode_sb base rt imm) rfl (by decide) fun k hk => by
     obtain rfl : k = 0 := Nat.lt_one_iff.mp hk
     exact extract_all _,
   means_memWrite (decode_sh base rt imm) rfl (by decide) fun _ _ =>
     BitVec.extractLsb'_extractLsb'_of_le (by omega),
   means_memWrite (decode_sw base rt imm) rfl (by decide) fun _ _ => rfl⟩

end Sys2Proof.Machine
end

section
/-! The coprocessor moves and the two instructions that take a draw (43_scalar_cop_moves.md, R222-R227, and
48_vector_loadstore.md, R380): the flag register a field selects as a number, and each instruction as its rule's effect. -/

namespace Sys2Proof.Machine

variable (s : State)

/-! ### The selected flag register (R224, R225, D11) -/

/-- The selector is the field mod 4. -/
theorem flagSelector_toNat (rd : Reg) : (rd &&& 3).toNat = rd.toNat % 4 := by
  rw [BitVec.toNat_and]
  exact Nat.and_two_pow_sub_one_eq_mod rd.toNat 2

/-- VCE is read as 16 bits whose top bit is clear, so its sign extension adds zeros. -/
theorem signExtend_vce (vce : BitVec 8) : (vce.setWidth 16).signExtend 32 = vce.setWidth 32 := by
  have hmsb : (vce.setWidth 16).msb = false := by simp [BitVec.msb_setWidth]
  rw [BitVec.signExtend_eq_setWidth_of_msb_false hmsb, BitVec.setWidth_setWidth (by decide)]

/-- The selected flag register, sign-extended from 16 bits. -/
theorem signExtend_flagReg (rd : Reg) :
    (s.flagReg rd).signExtend 32 =
      if rd.toNat % 4 = 0 then s.vco.signExtend 32 else if rd.toNat % 4 = 1 then s.vcc.signExtend 32
      else s.vce.setWidth 32 := by
  rw [State.flagReg, flagSelector_toNat]
  split
  · next h => rw [if_pos h]
  · next h => rw [if_neg (by omega), if_pos h]
  · next h0 h1 => rw [if_neg h0, if_neg h1, signExtend_vce]

theorem setFlagReg_vco (rd : Reg) (v : Word) :
    (s.setFlagReg rd v).vco = if rd.toNat % 4 = 0 then v.extractLsb' 0 16 else s.vco := by
  rw [State.setFlagReg, flagSelector_toNat]
  split
  · next h => rw [if_pos h]
  · next h => rw [if_neg (by omega)]
  · next h0 _ => rw [if_neg h0]

theorem setFlagReg_vcc (rd : Reg) (v : Word) :
    (s.setFlagReg rd v).vcc = if rd.toNat % 4 = 1 then v.extractLsb' 0 16 else s.vcc := by
  rw [State.setFlagReg, flagSelector_toNat]
  split
  · next h => rw [if_neg (by omega)]
  · next h => rw [if_pos h]
  · next _ h1 => rw [if_neg h1]

theorem setFlagReg_vce (rd : Reg) (v : Word) :
    (s.setFlagReg rd v).vce = if 2 ≤ rd.toNat % 4 then v.extractLsb' 0 8 else s.vce := by
  rw [State.setFlagReg, flagSelector_toNat]
  split
  · next h => rw [if_neg (by omega)]
  · next h => rw [if_neg (by omega)]
  · next h0 h1 => rw [if_pos ((Nat.two_le_iff _).mpr ⟨h0, h1⟩)]

/-- Settles O21: CFC2 writes one register from the selected flag register; CTC2 writes the selected one and keeps every
other component. -/
theorem flagRegisterMoves : Obligations.FlagRegisterMoves := fun s rt rd e ignored =>
  ⟨means_writesX (decode_cfc2 rt rd e ignored) rfl (signExtend_flagReg s rd),
   decode_ctc2 rt rd e ignored, (s.setFlagReg rd (s.x rt)).retire, rfl,
   setFlagReg_vco s rd _, setFlagReg_vcc s rd _, setFlagReg_vce s rd _,
   setFlagReg_x s rd _, setFlagReg_vreg s rd _, setFlagReg_accLane s rd _,
   ⟨setFlagReg_divIn s rd _, setFlagReg_divOut s rd _, setFlagReg_divDp s rd _⟩,
   setFlagReg_dm s rd _, setFlagReg_im s rd _,
   ⟨setFlagReg_halted s rd _, setFlagReg_refused s rd _, setFlagReg_cfg s rd _⟩, setFlagReg_draws s rd _,
   retires_retire (setFlagReg_pc s rd _) (setFlagReg_pend s rd _) (setFlagReg_cycles s rd _)⟩

/-! ### Bytes of a vector register (R226, R227) -/

/-- A word whose instruction writes bytes of one vector register, with the register's new bytes in the rule's terms. -/
theorem means_setVbytes {w : Word} {i : Instr} {s : State} {vt : Reg} {f : Elem → Option Byte} {b : Elem → Byte}
    (hdecode : decode w = .ok i) (hexec : exec i s = .next (s.setVbytes vt f).retire)
    (hb : ∀ k, (f k).getD (s.vbyte vt k) = b k) : Means w i s (fun t => WritesVbytes s t vt b) :=
  ⟨hdecode, _, hexec, funext hb ▸ setVbytes_spec s vt f⟩

/-- Settles O22: MFC2 writes one register from two bytes; MTC2 gives two bytes of a vector register and keeps the
others. -/
theorem vectorElementMoves : Obligations.VectorElementMoves := by
  refine fun s rt rd e ignored => ⟨means_writesX (decode_mfc2 rt rd e ignored) rfl rfl,
    means_setVbytes (decode_mtc2 rt rd e ignored) rfl fun k => ?_⟩
  simp only [BitVec.toNat_inj]
  split
  · rfl
  · split <;> rfl

/-! ### The draws (R222, R380) -/

/-- Settles O42: each is the register write of its shape from the state whose counter has passed the draw. -/
theorem drawsAreFree : Obligations.DrawsAreFree := by
  refine fun s rt rd vt base e offset ignored =>
    ⟨⟨decode_mfc0 rt rd e ignored, ?_⟩, ⟨decode_lwv base vt e offset, ?_⟩⟩
  · obtain ⟨t, hexec, hself, hother, hvector, hdmem, himem, hcontrol, hdraws, hretires⟩ :=
      writeX_spec s.countDraw rt (Config.cop0Read s.draws)
    exact ⟨t, hexec, hself, hother, hdraws, hvector, hdmem, himem, hcontrol, hretires⟩
  · obtain ⟨hlanes, hother, hacc, hflags, hdivide, hscalar, hdmem, himem, hcontrol, hdraws, hretires⟩ :=
      setVreg_spec s.countDraw vt fun j => (Config.lwvResult s.draws).extractLsb' (112 - 16 * j) 16
    exact ⟨_, rfl, hlanes, hother, hdraws, hacc, hflags, hdivide, hscalar, hdmem, himem, hcontrol, hretires⟩

end Sys2Proof.Machine
end

section
/-! Vector multiply and multiply-accumulate (44_vector_multiply.md, R240-R258): the narrowing of an exact value to an
accumulator lane and its clamps in numbers, and each instruction as the accumulator and the destination of its rule. -/

namespace Sys2Proof.Machine

/-! ### The shape of the family (R241) -/

section
variable {w : Word} {i : Instr} {s t : State} {vd : Reg} {acc' : Fin 8 → AccLane} {res' claim : Fin 8 → Half}

/-- A word whose instruction writes the accumulator and a vector register lane by lane, with both in the rule's terms. -/
theorem means_setAccAndVreg {acc : Fin 8 → AccLane} {res : Fin 8 → Half} (hdecode : decode w = .ok i)
    (hexec : exec i s = .next (s.setAccAndVreg vd acc res).retire) (hacc : ∀ j, acc j = acc' j)
    (hres : ∀ j, res j = res' j) :
    Means w i s (fun t => WritesLanes s t vd acc' res' ∧ SameFlags s t ∧ SameDivide s t) := by
  obtain rfl := funext hacc
  obtain rfl := funext hres
  exact ⟨hdecode, _, hexec, setAccAndVreg_spec s vd acc res⟩

/-- A word of a multiply, with the narrowed accumulator lanes in the rule's terms. -/
theorem means_multiply {acc : Fin 8 → Int} {clamp : AccLane → Half} (hdecode : decode w = .ok i)
    (hexec : exec i s = s.multiply vd acc clamp) (hacc : ∀ j, trunc48 (acc j) = acc' j) :
    Means w i s (fun t => WritesLanes s t vd acc' (fun j => clamp (acc' j)) ∧ SameFlags s t ∧ SameDivide s t) :=
  means_setAccAndVreg hdecode hexec hacc fun j => congrArg clamp (hacc j)

/-- The destination has a second reading where the lanes written to it do. -/
theorem means_writesLanes_also
    (h : Means w i s (fun t => WritesLanes s t vd acc' res' ∧ SameFlags s t ∧ SameDivide s t))
    (hclaim : ∀ j, res' j = claim j) :
    Means w i s (fun t =>
      WritesLanes s t vd acc' res' ∧ (∀ j, t.lane vd j = claim j) ∧ SameFlags s t ∧ SameDivide s t) := by
  obtain ⟨hdecode, t, hexec, ⟨hacc, hres, hframe⟩, hrest⟩ := h
  exact ⟨hdecode, t, hexec, ⟨hacc, hres, hframe⟩, fun j => (hres j).trans (hclaim j), hrest⟩

/-- What the lanes are after the cycle of a multiply. -/
theorem multiply_next {acc : Fin 8 → Int} {clamp : AccLane → Half} (h : s.multiply vd acc clamp = .next t) :
    (∀ j, t.accLane j = trunc48 (acc j)) ∧ (∀ j, t.lane vd j = clamp (t.accLane j)) ∧
      ∀ r, vd ≠ r → ∀ j, t.lane r j = s.lane r j := by
  cases h
  obtain ⟨⟨hacc, hres, hother, -⟩, -⟩ := setAccAndVreg_spec s vd (fun j => trunc48 (acc j))
    fun j => clamp (trunc48 (acc j))
  exact ⟨hacc, fun j => (hres j).trans (congrArg clamp (hacc j).symm), fun r hr => lane_of_vreg (hother r hr.symm)⟩

end

/-! ### Narrowing to an accumulator lane (R12, R42) -/

/-- A number that fits an accumulator lane is not changed by narrowing. -/
theorem trunc48_toInt {x : Int} (hlo : -2 ^ 47 ≤ x) (hhi : x < 2 ^ 47) : (trunc48 x).toInt = x :=
  BitVec.toInt_ofInt_eq_self (by decide) hlo hhi

/-- The middle and high planes of a number that fits an accumulator lane. -/
theorem mid_trunc48 {x : Int} (hlo : -2 ^ 47 ≤ x) (hhi : x < 2 ^ 47) : mid (trunc48 x) = x / 65536 := by
  rw [mid_eq_floor, trunc48_toInt hlo hhi]

theorem trunc48_add (x y : Int) : trunc48 (x + y) = trunc48 x + trunc48 y := BitVec.ofInt_add x y

theorem trunc48_accInt (s : State) (j : Fin 8) : trunc48 (s.accInt j) = s.accLane j := BitVec.ofInt_toInt

/-- Accumulating is addition of lanes mod 2^48. -/
theorem trunc48_accInt_add (s : State) (j : Fin 8) (x : Int) :
    trunc48 (s.accInt j + x) = s.accLane j + trunc48 x := by
  rw [trunc48_add, trunc48_accInt]

/-- A lane that takes its own value plus a term, or its own value. -/
theorem trunc48_ite_accInt (s : State) (j : Fin 8) (x : Int) (p : Prop) [Decidable p] :
    trunc48 (if p then x else s.accInt j) = if p then trunc48 x else s.accLane j := by
  rw [apply_ite trunc48, trunc48_accInt]

/-! ### Clamps that read a plane (R245-R247) -/

section
variable {a : AccLane} {x : Int}

/-- The signed clamp of a lane whose middle and high planes are a 16-bit number is the middle plane. -/
theorem clampS_eq_middle (hlo : -32768 ≤ mid a) (hhi : mid a ≤ 32767) : clampS a = a.extractLsb' 16 16 := by
  have ha := a.isLt
  apply BitVec.eq_of_toNat_eq
  rw [clampS, sat16, max_eq_left hlo, min_eq_left hhi, trunc16, BitVec.toNat_ofInt, mid_eq_floor,
    BitVec.toInt_eq_toNat_cond, BitVec.extractLsb'_toNat, Nat.shiftRight_eq_div_pow]
  omega

/-- The low clamp of such a lane is the low plane. -/
theorem clampL_eq_low (hlo : -32768 ≤ mid a) (hhi : mid a ≤ 32767) : clampL a = a.extractLsb' 0 16 := by
  rw [clampL, if_neg (by omega), if_neg (by omega)]

/-- A 32-bit number in an accumulator lane has 16-bit middle and high planes. -/
theorem mid_trunc48_bounds (hlo : -2 ^ 31 ≤ x) (hhi : x < 2 ^ 31) :
    -32768 ≤ mid (trunc48 x) ∧ mid (trunc48 x) ≤ 32767 := by
  rw [mid_trunc48 (by omega) (by omega)]
  omega

theorem clampS_trunc48 (hlo : -2 ^ 31 ≤ x) (hhi : x < 2 ^ 31) :
    clampS (trunc48 x) = (trunc48 x).extractLsb' 16 16 :=
  have ⟨hl, hh⟩ := mid_trunc48_bounds hlo hhi
  clampS_eq_middle hl hh

theorem clampL_trunc48 (hlo : -2 ^ 31 ≤ x) (hhi : x < 2 ^ 31) :
    clampL (trunc48 x) = (trunc48 x).extractLsb' 0 16 :=
  have ⟨hl, hh⟩ := mid_trunc48_bounds hlo hhi
  clampL_eq_low hl hh

/-- The signed clamp of a 32-bit number shifted left 16 saturates the number (R248). -/
theorem clampS_trunc48_shifted (hlo : -2 ^ 31 ≤ x) (hhi : x < 2 ^ 31) : clampS (trunc48 (x * 65536)) = sat16 x := by
  rw [clampS, mid_trunc48 (by omega) (by omega), Int.mul_ediv_cancel x (by decide)]

end

/-! ### Products of lanes are 32-bit numbers -/

section
variable (x y : Half)

theorem signedProduct_bounds : -2 ^ 31 ≤ x.toInt * y.toInt ∧ x.toInt * y.toInt < 2 ^ 31 := by
  have hlo := BitVec.le_toInt_mul_toInt (x := x) (y := y)
  have hhi := BitVec.toInt_mul_toInt_le (x := x) (y := y)
  omega

/-- The product of a signed and an unsigned lane (R246, R247). -/
theorem mixedProduct_bounds : -2 ^ 31 ≤ x.toInt * y.toNat ∧ x.toInt * y.toNat < 2 ^ 31 := by
  have hxlo : -32768 ≤ x.toInt := BitVec.le_toInt x
  have hxhi : x.toInt < 32768 := BitVec.toInt_lt
  have hy : y.toNat < 65536 := y.isLt
  constructor <;> nlinarith

/-- The high half of an unsigned product (R245). -/
theorem highProduct_bounds :
    -2 ^ 31 ≤ (x.toNat : Int) * y.toNat / 65536 ∧ (x.toNat : Int) * y.toNat / 65536 < 2 ^ 31 := by
  have hxy : x.toNat * y.toNat < 65536 * 65536 := Nat.mul_lt_mul'' x.isLt y.isLt
  omega

end

/-! ### Products and sums (R242-R248, R251-R257) -/

/-- Settles O23: each word's instruction writes the rule's own values. -/
theorem fractionMultiplies : Obligations.FractionMultiplies := fun _ vd vs vt e =>
  ⟨means_multiply (decode_vmulf e vt vs vd) rfl fun _ => rfl,
   means_multiply (decode_vmulu e vt vs vd) rfl fun _ => rfl,
   means_setAccAndVreg (decode_vmulq e vt vs vd) rfl (fun _ => rfl) fun _ => rfl⟩

/-- Settles O24: each word's instruction writes its product, which fits 32 bits, so that the clamp reads a plane. -/
theorem doublePrecisionMultiplies : Obligations.DoublePrecisionMultiplies := by
  refine fun s vd vs vt e =>
    ⟨means_writesLanes_also (means_multiply (decode_vmudl e vt vs vd) rfl fun _ => rfl) fun j => ?low,
     means_writesLanes_also (means_multiply (decode_vmudm e vt vs vd) rfl fun _ => rfl) fun j => ?middle,
     means_writesLanes_also (means_multiply (decode_vmudn e vt vs vd) rfl fun _ => rfl) fun j => ?mixed,
     means_writesLanes_also (means_multiply (decode_vmudh e vt vs vd) rfl fun _ => rfl) fun j => ?high⟩
  case low =>
    obtain ⟨hlo, hhi⟩ := highProduct_bounds (s.lane vs j) (s.lane vt (sel e j))
    exact (clampL_trunc48 hlo hhi).symm
  case middle =>
    obtain ⟨hlo, hhi⟩ := mixedProduct_bounds (s.lane vs j) (s.lane vt (sel e j))
    exact (clampS_trunc48 hlo hhi).symm
  case mixed =>
    obtain ⟨hlo, hhi⟩ := mixedProduct_bounds (s.lane vt (sel e j)) (s.lane vs j)
    rw [mul_comm] at hlo hhi
    exact (clampL_trunc48 hlo hhi).symm
  case high =>
    obtain ⟨hlo, hhi⟩ := signedProduct_bounds (s.lane vs j) (s.lane vt (sel e j))
    exact clampS_trunc48_shifted hlo hhi

/-- Settles O25: each word's instruction writes the rule's own sum and its clamp. -/
theorem multiplyAccumulates : Obligations.MultiplyAccumulates := fun _ vd vs vt e =>
  ⟨means_multiply (decode_vmacf e vt vs vd) rfl fun _ => rfl,
   means_multiply (decode_vmacu e vt vs vd) rfl fun _ => rfl,
   means_multiply (decode_vmadl e vt vs vd) rfl fun _ => rfl,
   means_multiply (decode_vmadm e vt vs vd) rfl fun _ => rfl,
   means_multiply (decode_vmadn e vt vs vd) rfl fun _ => rfl,
   means_multiply (decode_vmadh e vt vs vd) rfl fun _ => rfl⟩

/-! ### Rounding (R249, R250, R253) -/

/-- The selector of VRNDP and VRNDN is the parity of the `vs` field. -/
theorem roundTerm_eq (s : State) (vs vt : Reg) (e : Elem) (j : Fin 8) :
    s.roundTerm (vs.setWidth 1) vt e j =
      (s.lane vt (sel e j)).toInt * if vs.toNat % 2 = 1 then 65536 else 1 := by
  rw [State.roundTerm, BitVec.toNat_setWidth]
  obtain h | h := Nat.mod_two_eq_zero_or_one vs.toNat <;> rw [h] <;> rfl

/-- Bit 5 of a word, read from its signed value. -/
theorem bit5_eq_false_iff (q : BitVec 32) : q.getLsbD 5 = false ↔ q.toInt / 32 % 2 = 0 := by
  rw [BitVec.getLsbD, Nat.testBit_eq_decide_div_mod_eq, decide_eq_false_iff_not, BitVec.toInt_eq_toNat_cond]
  omega

/-- The step of VMACQ in numbers. -/
theorem oddified_eq (a : AccLane) :
    oddified (a.extractLsb' 16 32) =
      if a.toInt / 65536 < 0 ∧ a.toInt / 65536 / 32 % 2 = 0 then a.toInt / 65536 + 32
      else if 32 ≤ a.toInt / 65536 ∧ a.toInt / 65536 / 32 % 2 = 0 then a.toInt / 65536 - 32
      else a.toInt / 65536 := by
  have hmid : (a.extractLsb' 16 32).toInt = a.toInt / 65536 := mid_eq_floor a
  simp only [oddified, bit5_eq_false_iff, hmid]

/-- Settles O26: VRNDP and VRNDN add the rounding term to the lanes of their sign; VMACQ steps the upper planes. -/
theorem accumulatorRounding : Obligations.AccumulatorRounding := by
  refine fun s vd vs vt e =>
    ⟨means_multiply (decode_vrndp e vt vs vd) rfl fun j => ?rounded,
     means_multiply (decode_vrndn e vt vs vd) rfl fun j => ?rounded',
     means_setAccAndVreg (decode_vmacq e vt vs vd) rfl
       (fun j => congrArg (BitVec.ofInt 32 · ++ (s.accLane j).extractLsb' 0 16) (oddified_eq (s.accLane j)))
       fun j => congrArg quantized (oddified_eq (s.accLane j))⟩
  case rounded | rounded' =>
    rw [trunc48_ite_accInt, roundTerm_eq]
    rfl

/-! ### The 32 by 32 bit product (R258) -/

/-- A number from its signed high half and its unsigned low half. -/
theorem halves_toInt (hi lo : Half) : (hi ++ lo : Word).toInt = 65536 * hi.toInt + lo.toNat :=
  BitVec.toInt_append

/-- The exact product of two numbers, shifted right 16, from the products of their halves. -/
theorem product_of_halves (ah al bh bl : Half) :
    (ah ++ al : Word).toInt * (bh ++ bl : Word).toInt / 65536 =
      (al.toNat : Int) * bl.toNat / 65536 + ah.toInt * bl.toNat + al.toNat * bh.toInt +
        ah.toInt * bh.toInt * 65536 := by
  have hexpand : (ah ++ al : Word).toInt * (bh ++ bl : Word).toInt =
      (al.toNat : Int) * bl.toNat +
        (ah.toInt * bl.toNat + al.toNat * bh.toInt + ah.toInt * bh.toInt * 65536) * 65536 := by
    rw [halves_toInt, halves_toInt]
    ring
  rw [hexpand, Int.add_mul_ediv_right _ _ (by decide), ← add_assoc, ← add_assoc]

/-- The product of two 32-bit numbers, shifted right 16, fits an accumulator lane. -/
theorem shiftedProduct_bounds (a b : Word) :
    -2 ^ 47 ≤ a.toInt * b.toInt / 65536 ∧ a.toInt * b.toInt / 65536 < 2 ^ 47 := by
  have hlo := BitVec.le_toInt_mul_toInt (x := a) (y := b)
  have hhi := BitVec.toInt_mul_toInt_le (x := a) (y := b)
  omega

/-- Settles O47: the four instructions add up the products of the halves, and their sum fits the lane. -/
theorem product32By32 : Obligations.Product32By32 := by
  intro s t u v w ah al bh bl d1 d2 d3 d4 e hd ht hu hv hw j a b
  obtain ⟨h1ah, h1al, h1bh, h1bl⟩ := hd d1 (by simp)
  obtain ⟨h2ah, h2al, h2bh, -⟩ := hd d2 (by simp)
  obtain ⟨h3ah, -, h3bh, -⟩ := hd d3 (by simp)
  obtain ⟨htacc, -, htlane⟩ := multiply_next (s := s) ht
  obtain ⟨huacc, -, hulane⟩ := multiply_next (s := t) hu
  obtain ⟨hvacc, -, hvlane⟩ := multiply_next (s := u) hv
  obtain ⟨hwacc, hwlane, -⟩ := multiply_next (s := v) hw
  have hlow : t.accLane j = trunc48 ((s.lane al j).toNat * (s.lane bl (sel e j)).toNat / 65536) := htacc j
  have hmiddle : u.accLane j = t.accLane j + trunc48 ((s.lane ah j).toInt * (s.lane bl (sel e j)).toNat) := by
    rw [← htlane ah h1ah, ← htlane bl h1bl]
    exact (huacc j).trans (trunc48_accInt_add t j _)
  have hmixed : v.accLane j = u.accLane j + trunc48 ((s.lane al j).toNat * (s.lane bh (sel e j)).toInt) := by
    rw [← htlane al h1al, ← hulane al h2al, ← htlane bh h1bh, ← hulane bh h2bh]
    exact (hvacc j).trans (trunc48_accInt_add u j _)
  have hhigh : w.accLane j = v.accLane j + trunc48 ((s.lane ah j).toInt * (s.lane bh (sel e j)).toInt * 65536) := by
    rw [← htlane ah h1ah, ← hulane ah h2ah, ← hvlane ah h3ah, ← htlane bh h1bh,
      ← hulane bh h2bh, ← hvlane bh h3bh]
    exact (hwacc j).trans (trunc48_accInt_add v j _)
  have hsum : w.accLane j = trunc48 (a.toInt * b.toInt / 65536) := by
    rw [product_of_halves, trunc48_add, trunc48_add, trunc48_add, hhigh, hmixed, hmiddle, hlow]
  obtain ⟨hlo, hhi⟩ := shiftedProduct_bounds a b
  have hexact : (w.accLane j).toInt = a.toInt * b.toInt / 65536 := by rw [hsum, trunc48_toInt hlo hhi]
  exact ⟨hexact, by rw [hwlane, clampS_eq, hexact]⟩

end Sys2Proof.Machine
end

section
/-! Vector add, logic, accumulator read and the reserved opcodes (45_vector_add_logic.md, R280-R296): the results and
flags of each instruction in the rules' own numbers, and the 32-bit add and compare made of two instructions. -/

namespace Sys2Proof.Machine

/-! ### The shape of the family (R280) -/

section
variable {w : Word} {i : Instr} {s t : State} {P : State → Prop}

/-- What a word's instruction completes with holds of the next state it answers. -/
theorem means_next (h : Means w i s P) (ht : exec i s = .next t) : P t := by
  obtain ⟨-, u, hu, hP⟩ := h
  cases hu.symm.trans ht
  exact hP

/-- A word whose instruction writes ACC_LO, a vector register and any of the flags, with what it writes in the rule's
terms. -/
theorem means_setLoAndVreg {vd : Reg} {lo lo' res res' : Fin 8 → Half} {vco vcc : BitVec 16} {vce : BitVec 8}
    (hdecode : decode w = .ok i)
    (hexec : exec i s = .next { s.setLoAndVreg vd lo res with vco := vco, vcc := vcc, vce := vce }.retire)
    (hlo : ∀ j, lo j = lo' j) (hres : ∀ j, res j = res' j)
    (hflags : P { s.setLoAndVreg vd lo res with vco := vco, vcc := vcc, vce := vce }.retire) :
    Means w i s (fun t => WritesLoLanes s t vd lo' res' ∧ P t) := by
  obtain rfl := funext hlo
  obtain rfl := funext hres
  exact ⟨hdecode, _, hexec, setLoAndVreg_spec s vd lo res vco vcc vce s.divIn s.divOut s.divDp, hflags⟩

/-- A word whose instruction writes one value per lane to ACC_LO and to a vector register (R287-R292). -/
theorem means_lanewise {vd : Reg} {res : Fin 8 → Half} (hdecode : decode w = .ok i)
    (hexec : exec i s = s.lanewise vd res) :
    Means w i s (fun t => WritesLoLanes s t vd res res ∧ SameFlags s t ∧ SameDivide s t) :=
  means_setLoAndVreg hdecode hexec (fun _ => rfl) (fun _ => rfl) ⟨⟨rfl, rfl, rfl⟩, rfl, rfl, rfl⟩

/-- A word of a reserved opcode, under each value of RESERVED_VU (R295). -/
theorem means_reserved {vd vs vt : Reg} {e : Elem} (hdecode : decode w = .ok i)
    (hexec : exec i s = .next (s.reserved vd vs vt e).retire) :
    Means w i s (fun t =>
      (s.cfg.reservedVu = .vzero →
        WritesLoLanes s t vd
          (fun j => BitVec.ofInt 16 ((s.lane vs j).toInt + (s.lane vt (sel e j)).toInt))
          (fun _ => 0) ∧ SameFlags s t ∧ SameDivide s t) ∧
      (s.cfg.reservedVu = .nop → NoEffect s t)) := by
  refine ⟨hdecode, _, hexec, fun hzero => ?_, fun hnop => ?_⟩
  · rw [State.reserved, hzero]
    exact ⟨setLoAndVreg_spec s vd _ _ s.vco s.vcc s.vce s.divIn s.divOut s.divDp, ⟨rfl, rfl, rfl⟩, rfl, rfl, rfl⟩
  · rw [State.reserved, hnop]
    exact retire_noEffect s

end

/-! ### The plane VSAR reads (R286) -/

theorem accPlane_eq (a : AccLane) (e : Elem) :
    accPlane a e =
      if e = 8 then a.extractLsb' 32 16
      else if e = 9 then a.extractLsb' 16 16
      else if e = 10 then a.extractLsb' 0 16
      else 0 := by
  have hnum (k : Elem) : e = k ↔ e.toNat = k.toNat := BitVec.toNat_inj.symm
  unfold accPlane
  split
  · next h => exact (if_pos ((hnum 8).mpr h)).symm
  · next h => rw [(hnum 9).mpr h]; rfl
  · next h => rw [(hnum 10).mpr h]; rfl
  · next h8 h9 h10 => rw [if_neg (h8 ∘ (hnum 8).mp), if_neg (h9 ∘ (hnum 9).mp), if_neg (h10 ∘ (hnum 10).mp)]

/-! ### Absolute value (R283) -/

section
variable (a b : Half)

/-- A 16-bit number is not changed by saturation. -/
theorem sat16_eq_trunc16 {x : Int} (hlo : -32768 ≤ x) (hhi : x ≤ 32767) : sat16 x = trunc16 x := by
  rw [sat16, max_eq_left hlo, min_eq_left hhi]

theorem absLo_eq :
    absLo a b = trunc16 (if a.toInt < 0 then -b.toInt else if a.toInt = 0 then 0 else b.toInt) := by
  have hb : trunc16 b.toInt = b := BitVec.ofInt_toInt
  rw [apply_ite trunc16, apply_ite trunc16, hb]
  rfl

/-- The destination saturates; only the negation of -32768 is out of range. -/
theorem absRes_eq :
    absRes a b = sat16 (if a.toInt < 0 then -b.toInt else if a.toInt = 0 then 0 else b.toInt) := by
  have hlo : -32768 ≤ b.toInt := BitVec.le_toInt b
  have hhi : b.toInt < 32768 := BitVec.toInt_lt
  by_cases h : a.toInt < 0 ∧ b.toInt = -32768
  · rw [absRes, if_pos h, if_pos h.1, h.2]
    rfl
  · rw [absRes, if_neg h, absLo_eq, sat16_eq_trunc16] <;> split_ifs <;> omega

end

/-! ### Carry and borrow (R284, R285) -/

section
variable (s : State) (vs vt : Reg) (e : Elem) (j : Fin 8)

theorem trunc16_unsignedSum :
    trunc16 (s.laneAu vs j + s.laneBu vt e j) =
      BitVec.ofNat 16 ((s.lane vs j).toNat + (s.lane vt (sel e j)).toNat) :=
  BitVec.ofInt_natCast ..

/-- The carry-out of the unsigned sum. -/
theorem carryOut_eq :
    decide (0xFFFF < s.laneAu vs j + s.laneBu vt e j) =
      decide (65536 ≤ (s.lane vs j).toNat + (s.lane vt (sel e j)).toNat) := by
  rw [decide_eq_decide, State.laneAu, State.laneBu, State.vte, u16, u16]
  omega

/-- The borrow-out of the unsigned difference. -/
theorem borrowOut_eq :
    decide (s.laneAu vs j - s.laneBu vt e j < 0) =
      decide ((s.lane vs j).toNat < (s.lane vt (sel e j)).toNat) := by
  rw [decide_eq_decide, State.laneAu, State.laneBu, State.vte, u16, u16]
  omega

/-- The not-equal bit of the unsigned difference. -/
theorem differenceNonzero_eq :
    decide (s.laneAu vs j - s.laneBu vt e j ≠ 0) =
      decide ((s.lane vs j).toNat ≠ (s.lane vt (sel e j)).toNat) := by
  rw [decide_eq_decide, State.laneAu, State.laneBu, State.vte, u16, u16]
  omega

end

/-! ### The instructions (R281-R292, R295) -/

/-- Settles O27: each word's instruction writes the rule's sum, and its flags are the carry, the borrow and the
not-equal bit in numbers. -/
theorem vectorAdds : Obligations.VectorAdds := fun s vd vs vt e =>
  ⟨means_setLoAndVreg (decode_vadd e vt vs vd) rfl (fun _ => rfl) (fun _ => rfl) ⟨rfl, rfl, rfl, rfl, rfl, rfl⟩,
   means_setLoAndVreg (decode_vsub e vt vs vd) rfl (fun _ => rfl) (fun _ => rfl) ⟨rfl, rfl, rfl, rfl, rfl, rfl⟩,
   means_setLoAndVreg (decode_vabs e vt vs vd) rfl (fun _ => absLo_eq ..) (fun _ => absRes_eq ..)
     ⟨⟨rfl, rfl, rfl⟩, rfl, rfl, rfl⟩,
   means_setLoAndVreg (decode_vaddc e vt vs vd) rfl (trunc16_unsignedSum s vs vt e) (trunc16_unsignedSum s vs vt e)
     ⟨fun j => ⟨(flagPair_low _ _ j).trans (carryOut_eq s vs vt e j), flagPair_high _ _ j⟩, rfl, rfl, rfl, rfl, rfl⟩,
   means_setLoAndVreg (decode_vsubc e vt vs vd) rfl (fun _ => rfl) (fun _ => rfl)
     ⟨fun j => ⟨(flagPair_low _ _ j).trans (borrowOut_eq s vs vt e j),
        (flagPair_high _ _ j).trans (differenceNonzero_eq s vs vt e j)⟩, rfl, rfl, rfl, rfl, rfl⟩⟩

/-- Settles O28: the instruction writes one register, each lane the plane that `e` selects. -/
theorem accumulatorRead : Obligations.AccumulatorRead := by
  intro s vd vs vt e
  simp only [← accPlane_eq]
  exact ⟨decode_vsar e vt vs vd, _, rfl, setVreg_spec s vd fun j => accPlane (s.accLane j) e⟩

/-- Settles O29: each word's instruction writes the rule's own lanes. -/
theorem vectorLogic : Obligations.VectorLogic := fun _ vd vs vt e =>
  ⟨means_lanewise (decode_vand e vt vs vd) rfl, means_lanewise (decode_vnand e vt vs vd) rfl,
   means_lanewise (decode_vor e vt vs vd) rfl, means_lanewise (decode_vnor e vt vs vd) rfl,
   means_lanewise (decode_vxor e vt vs vd) rfl, means_lanewise (decode_vnxor e vt vs vd) rfl⟩

/-- Settles O30: every opcode of the list is decoded to an instruction that does what RESERVED_VU says. -/
theorem reservedVectorOpcodes : Obligations.ReservedVectorOpcodes := by
  intro s vd vs vt e
  simp only [List.forall_mem_cons]
  exact
    ⟨means_reserved (decode_vrsvd12 e vt vs vd) rfl, means_reserved (decode_vrsvd16 e vt vs vd) rfl,
     means_reserved (decode_vrsvd17 e vt vs vd) rfl, means_reserved (decode_vrsvd18 e vt vs vd) rfl,
     means_reserved (decode_vrsvd19 e vt vs vd) rfl, means_reserved (decode_vrsvd1a e vt vs vd) rfl,
     means_reserved (decode_vrsvd1b e vt vs vd) rfl, means_reserved (decode_vrsvd1c e vt vs vd) rfl,
     means_reserved (decode_vrsvd1e e vt vs vd) rfl, means_reserved (decode_vrsvd1f e vt vs vd) rfl,
     means_reserved (decode_vrsvd2e e vt vs vd) rfl, means_reserved (decode_vrsvd2f e vt vs vd) rfl,
     means_reserved (decode_vrsvd38 e vt vs vd) rfl, means_reserved (decode_vrsvd39 e vt vs vd) rfl,
     means_reserved (decode_vrsvd3a e vt vs vd) rfl, means_reserved (decode_vrsvd3b e vt vs vd) rfl,
     means_reserved (decode_vrsvd3c e vt vs vd) rfl, means_reserved (decode_vrsvd3d e vt vs vd) rfl,
     means_reserved (decode_vrsvd3e e vt vs vd) rfl, List.forall_mem_nil _⟩

/-! ### 32-bit add and compare (R281, R284, R285, R311-R314) -/

section
variable (ah al bh bl : Half)

/-- An unsigned number from its halves. -/
theorem halves_toNat (hi lo : Half) : (hi ++ lo : Word).toNat = 65536 * hi.toNat + lo.toNat := by
  rw [BitVec.toNat_append, ← Nat.shiftLeft_add_eq_or_of_lt lo.isLt, Nat.shiftLeft_eq, mul_comm]

/-- The sum of two numbers from the sums of their halves, the low sum's carry added to the high sum. -/
theorem sum_of_halves :
    (BitVec.ofInt 16 (ah.toInt + bh.toInt + if 65536 ≤ al.toNat + bl.toNat then 1 else 0) ++
        BitVec.ofNat 16 (al.toNat + bl.toNat) : Word) = (ah ++ al : Word) + (bh ++ bl : Word) := by
  apply BitVec.eq_of_toNat_eq
  have hal := al.isLt
  have hbl := bl.isLt
  rw [BitVec.toNat_add, halves_toNat, halves_toNat, halves_toNat, BitVec.toNat_ofInt, BitVec.toNat_ofNat,
    BitVec.toInt_eq_toNat_cond, BitVec.toInt_eq_toNat_cond]
  split_ifs <;> omega

/-- Signed order is the signed order of the high halves, then the unsigned order of the low halves. -/
theorem halves_lt_iff :
    (ah ++ al : Word).toInt < (bh ++ bl : Word).toInt ↔
      ah.toInt < bh.toInt ∨ ah.toInt = bh.toInt ∧ al.toNat < bl.toNat := by
  have hal := al.isLt
  have hbl := bl.isLt
  rw [halves_toInt, halves_toInt]
  omega

theorem halves_eq_iff :
    (ah ++ al : Word).toInt = (bh ++ bl : Word).toInt ↔ ah.toInt = bh.toInt ∧ al.toNat = bl.toNat := by
  have hal := al.isLt
  have hbl := bl.isLt
  rw [halves_toInt, halves_toInt]
  omega

end

/-- Settles O48: the high add takes in the carry of the low add, and keeps the low destination. -/
theorem add32ByCarry : Obligations.Add32ByCarry := by
  intro s t u ah al bh bl dh dl e hah hbh hdh ht hu j
  obtain ⟨-, -, -, haddc, -⟩ := vectorAdds s dl al bl e
  obtain ⟨hadd, -⟩ := vectorAdds t dh ah bh e
  obtain ⟨⟨-, hlow, hother, -⟩, hcarry, -⟩ := means_next haddc ht
  obtain ⟨⟨hacc, -, hkept, -⟩, hvco, -⟩ := means_next hadd hu
  have hhigh : (u.accLane j).extractLsb' 0 16 =
      BitVec.ofInt 16 ((t.lane ah j).toInt + (t.lane bh (sel e j)).toInt + if t.carry j then 1 else 0) := (hacc j).left
  have hcarryOut : t.carry j = decide (65536 ≤ (s.lane al j).toNat + (s.lane bl (sel e j)).toNat) := (hcarry j).left
  refine ⟨?_, hvco⟩
  rw [hhigh, lane_of_vreg (hother ah hah.symm), lane_of_vreg (hother bh hbh.symm), hcarryOut,
    lane_of_vreg (hkept dl hdh), hlow]
  simp only [decide_eq_true_eq]
  exact sum_of_halves ..

/-- The compare flags after the cycle of VLT, VEQ, VNE or VGE (R311-R314). -/
theorem compare_next {s t : State} {vd vs vt : Reg} {e : Elem} {test : Fin 8 → Bool}
    (h : s.compare vd vs vt e test = .next t) (j : Fin 8) : t.cmp j = test j := by
  cases h
  exact flagPair_low _ test j

/-- Settles O49: the compare of the high halves falls back, where they are equal, on the borrow and the not-equal bit
that VSUBC left of the low halves. -/
theorem compare32ByBorrow : Obligations.Compare32ByBorrow := by
  intro s t u ah al bh bl dh dl e hah hbh ht j a b
  obtain ⟨-, -, -, -, hsubc⟩ := vectorAdds s dl al bl e
  obtain ⟨⟨-, -, hother, -⟩, hborrow, -⟩ := means_next hsubc ht
  obtain ⟨hcarry, hne⟩ := hborrow j
  have ha : t.laneA ah j = (s.lane ah j).toInt := congrArg BitVec.toInt (lane_of_vreg (hother ah hah.symm) j)
  have hb : t.laneB bh e j = (s.lane bh (sel e j)).toInt :=
    congrArg BitVec.toInt (lane_of_vreg (hother bh hbh.symm) (sel e j))
  have hlt := halves_lt_iff (s.lane ah j) (s.lane al j) (s.lane bh (sel e j)) (s.lane bl (sel e j))
  have heq := halves_eq_iff (s.lane ah j) (s.lane al j) (s.lane bh (sel e j)) (s.lane bl (sel e j))
  refine ⟨fun hu => ?lt, fun hu => ?eq, fun hu => ?ne, fun hu => ?ge⟩
  case lt | eq | ne | ge =>
    rw [compare_next (s := t) hu, Bool.eq_iff_iff]
    simp only [ha, hb, hcarry, hne, Bool.or_eq_true, Bool.and_eq_true, Bool.not_eq_true', Bool.and_eq_false_iff,
      decide_eq_true_eq, decide_eq_false_iff_not]
    omega

end Sys2Proof.Machine
end

section
/-! Vector compare, clip and merge (46_vector_compare_select.md, R310-R318): the tests of each instruction in the
rules' own numbers, and the flags and lanes they select. -/

namespace Sys2Proof.Machine

/-! ### The compares (R311-R314) -/

section
variable {w : Word} {i : Instr} {s : State} {vd vs vt : Reg} {e : Elem} {test test' : Fin 8 → Bool}
  {P : State → Prop} {lo res claim : Fin 8 → Half}

/-- A word whose instruction compares lane by lane, with the test in the rule's terms. -/
theorem means_compare (hdecode : decode w = .ok i) (hexec : exec i s = s.compare vd vs vt e test)
    (htest : ∀ j, test j = test' j) :
    let res := fun j => if test' j then s.lane vs j else s.lane vt (sel e j)
    Means w i s (fun t =>
      WritesLoLanes s t vd res res ∧
      (∀ j, t.cmp j = test' j ∧ t.clip j = false) ∧ t.vco = 0 ∧ t.vce = s.vce ∧ SameDivide s t) := by
  obtain rfl := funext htest
  exact means_setLoAndVreg hdecode hexec (fun _ => rfl) (fun _ => rfl)
    ⟨fun j => ⟨flagPair_low _ _ j, flagPair_high _ _ j⟩, rfl, rfl, rfl, rfl, rfl⟩

/-- The destination has a second reading where the lanes written to it do. -/
theorem means_writesLoLanes_also (h : Means w i s (fun t => WritesLoLanes s t vd lo res ∧ P t))
    (hclaim : ∀ j, res j = claim j) :
    Means w i s (fun t => (WritesLoLanes s t vd lo res ∧ P t) ∧ ∀ j, t.lane vd j = claim j) := by
  obtain ⟨hdecode, t, hexec, ⟨hlo, hres, hframe⟩, hP⟩ := h
  exact ⟨hdecode, t, hexec, ⟨⟨hlo, hres, hframe⟩, hP⟩, fun j => (hres j).trans (hclaim j)⟩

end

section
variable (a b : Half) (n : Bool)

/-- VEQ selects `a` only where the lanes are equal, so it always gives `b` (R312). -/
theorem select_of_equal :
    (if decide (a.toInt = b.toInt ∧ n = false) then a else b) = b := by
  rw [ite_eq_right_iff, decide_eq_true_eq]
  exact fun h => BitVec.eq_of_toInt_eq h.left

/-- VNE selects `b` only where the lanes are equal, so it always gives `a` (R313). -/
theorem select_of_unequal :
    (if decide (a.toInt ≠ b.toInt ∨ n = true) then a else b) = a := by
  rw [ite_eq_left_iff, decide_eq_true_eq, not_or, not_not]
  exact fun h => BitVec.eq_of_toInt_eq h.left.symm

end

section
variable (x y : Int) (c n : Bool)

theorem ltTest_eq :
    (decide (x < y) || decide (x = y) && n && c) = decide (x < y ∨ (x = y ∧ n = true ∧ c = true)) := by
  simp only [Bool.decide_or, Bool.decide_and, Bool.decide_eq_true, Bool.and_assoc]

theorem eqTest_eq : (decide (x = y) && !n) = decide (x = y ∧ n = false) := by
  simp only [Bool.decide_and, Bool.decide_eq_false]

theorem neTest_eq : (decide (x ≠ y) || n) = decide (x ≠ y ∨ n = true) := by
  simp only [Bool.decide_or, Bool.decide_eq_true]

theorem geTest_eq :
    (decide (y < x) || decide (x = y) && !(n && c)) = decide (y < x ∨ (x = y ∧ ¬(n = true ∧ c = true))) := by
  simp only [Bool.decide_or, Bool.decide_and, Bool.decide_eq_true, decide_not]

end

/-- Settles O31: each test is the rule's comparison; where VEQ and VNE would select the other lane, the two are
equal. -/
theorem vectorCompares : Obligations.VectorCompares := fun _ vd vs vt e =>
  ⟨means_compare (decode_vlt e vt vs vd) rfl fun _ => ltTest_eq ..,
   means_writesLoLanes_also (means_compare (decode_veq e vt vs vd) rfl fun _ => eqTest_eq ..)
     fun _ => select_of_equal ..,
   means_writesLoLanes_also (means_compare (decode_vne e vt vs vd) rfl fun _ => neTest_eq ..)
     fun _ => select_of_unequal ..,
   means_compare (decode_vge e vt vs vd) rfl fun _ => geTest_eq ..⟩

/-! ### VCH and VCR (R315, R317) -/

section
variable (a b : Int)

theorem clipSign_eq : clipSign a b = decide (decide (a < 0) ≠ decide (b < 0)) := by
  rw [clipSign, bne, beq_eq_decide, decide_not]

theorem chExt_eq : chExt a b = decide (clipSign a b = true ∧ chSum a b = -1) := by
  rw [chExt, Bool.decide_and, Bool.decide_eq_true]

theorem chNe_eq : chNe a b = decide (chSum a b ≠ 0 ∧ chExt a b = false) := by
  rw [chNe, Bool.decide_and, Bool.decide_eq_false]

end

/-- Settles O32: the flags are the rule's formulas over the sign test, and the result is selected by them. -/
theorem clipTestHigh : Obligations.ClipTestHigh := by
  intro s vd vs vt e
  simp only [← clipSign_eq, ← chSum.eq_def, ← chLe.eq_def, ← chGe.eq_def, ← chExt_eq, ← chNe_eq]
  exact means_setLoAndVreg (decode_vch e vt vs vd) rfl (fun _ => rfl) (fun _ => rfl)
    ⟨fun j => ⟨flagPair_low _ _ j, flagPair_high _ _ j, flagPair_low _ _ j, flagPair_high _ _ j,
      laneBits_bit (fun j => chExt (s.laneA vs j) (s.laneB vt e j)) j⟩,
      rfl, rfl, rfl⟩

/-- Settles O34: the tests share VCH's sign test, and clipping below gives the one's complement. -/
theorem clipTestOnesComplement : Obligations.ClipTestOnesComplement := by
  intro s vd vs vt e
  simp only [← clipSign_eq]
  exact means_setLoAndVreg (decode_vcr e vt vs vd) rfl (fun _ => rfl) (fun _ => rfl)
    ⟨fun j => ⟨flagPair_low _ _ j, flagPair_high _ _ j⟩, rfl, rfl, rfl, rfl, rfl⟩

/-! ### VCL (R316) -/

section
variable (s : State) (vs vt : Reg) (e : Elem) (j : Fin 8)

/-- The sum of the lanes is zero mod 2^16. -/
theorem sumIsZero_eq :
    (trunc16 (s.laneAu vs j + s.laneBu vt e j) == 0) =
      decide (((s.lane vs j).toNat + (s.lane vt (sel e j)).toNat) % 65536 = 0) := by
  rw [trunc16_unsignedSum, beq_eq_decide, decide_eq_decide, ← BitVec.toNat_inj, BitVec.toNat_ofNat]
  rfl

theorem clLe_eq :
    s.clLe vs vt e j =
      let carry := decide (65536 ≤ (s.lane vs j).toNat + (s.lane vt (sel e j)).toNat)
      let zero := decide (((s.lane vs j).toNat + (s.lane vt (sel e j)).toNat) % 65536 = 0)
      if s.notEqual j then s.cmp j
      else if s.ext j then zero || !carry else zero && !carry := by
  simp only [State.clLe, carryOut_eq, sumIsZero_eq]

theorem clGe_eq :
    s.clGe vs vt e j =
      if s.notEqual j then s.clip j else decide ((s.lane vt (sel e j)).toNat ≤ (s.lane vs j).toNat) := by
  simp only [State.clGe, State.laneAu, State.laneBu, State.vte, u16, Nat.cast_le]

end

/-- Settles O33: the tests are the rule's formulas over the unsigned operands; VCO and VCE are cleared. -/
theorem clipTestLow : Obligations.ClipTestLow := by
  intro s vd vs vt e
  simp only [← clLe_eq, ← clGe_eq]
  exact means_setLoAndVreg (decode_vcl e vt vs vd) rfl (fun _ => rfl) (fun _ => rfl)
    ⟨fun j => ⟨flagPair_low _ _ j, flagPair_high _ _ j⟩, rfl, rfl, rfl, rfl, rfl⟩

/-! ### VMRG (R318) -/

/-- Settles O35: the selection is the rule's own, and only VCO depends on the parameter. -/
theorem mergeSelectsByCompareFlags : Obligations.MergeSelectsByCompareFlags := fun _ vd vs vt e =>
  means_setLoAndVreg (decode_vmrg e vt vs vd) rfl (fun _ => rfl) (fun _ => rfl) ⟨rfl, rfl, rfl, rfl, rfl, rfl⟩

end Sys2Proof.Machine
end

section
/-! The vector single-lane operations (47_vector_single_lane.md, R340-R351): the divide unit's results in numbers, the
moves, the double-precision pair, and the four instructions with no effect. -/

namespace Sys2Proof.Machine

/-! ### The input stage (R343) -/

/-- The mask is the sign of the input in every bit. -/
theorem divMask_eq (input : Word) : divMask input = if input.toInt < 0 then BitVec.allOnes 32 else 0#32 := by
  have hlo := BitVec.le_toInt input
  have hhi : input.toInt < 2 ^ 31 := BitVec.toInt_lt
  apply BitVec.eq_of_toInt_eq
  rw [divMask, BitVec.toInt_sshiftRight, Int.shiftRight_eq_div_pow, apply_ite BitVec.toInt, BitVec.toInt_allOnes,
    BitVec.toInt_zero]
  split_ifs <;> omega

/-- The data word is the magnitude. -/
theorem divData_toNat (input : Word) : (divData input).toNat = magnitude input.toInt := by
  have hlt := input.isLt
  have hcond := BitVec.toInt_eq_toNat_cond input
  rw [divData, magnitude, divMask_eq]
  by_cases hneg : input.toInt < 0
  · rw [if_pos hneg, BitVec.xor_allOnes, apply_ite BitVec.toNat, BitVec.toNat_sub, BitVec.toNat_allOnes,
      BitVec.toNat_not]
    split_ifs <;> omega
  · rw [if_neg hneg, BitVec.xor_zero, BitVec.sub_zero, if_pos (by omega), if_neg (by omega)]
    omega

/-! ### The table index and the shift (R344, R347) -/

/-- The index is the nine bits of the normalised data word below its leading one. -/
theorem divIndex_toNat (data : Word) : (divIndex data).toNat = leadingBits data.toNat := by
  rw [divIndex, BitVec.ushiftRight_and_distrib, BitVec.setWidth_and,
    show ((0x7FC00000 : Word) >>> 22).setWidth 9 = BitVec.allOnes 9 by decide, BitVec.and_allOnes,
    BitVec.toNat_setWidth, BitVec.toNat_ushiftRight, BitVec.toNat_shiftLeft, Nat.shiftRight_eq_div_pow,
    Nat.shiftLeft_eq, leadingBits, clz32]
  omega

theorem divIndex_eq (data : Word) : divIndex data = BitVec.ofNat 9 (leadingBits data.toNat) := by
  rw [← divIndex_toNat, BitVec.ofNat_toNat, BitVec.setWidth_eq]

/-- Masking bit 0 of an index off leaves twice its half. -/
theorem toNat_maskLowBit (x : BitVec 9) : (x &&& 0x1FE).toNat = (x.toNat / 2) <<< 1 := by
  rw [show (0x1FE : BitVec 9) = BitVec.allOnes 9 <<< 1 by decide, ← BitVec.shiftLeft_ushiftRight,
    BitVec.toNat_shiftLeft, BitVec.toNat_ushiftRight, Nat.shiftRight_eq_div_pow, Nat.shiftLeft_eq]
  omega

/-- An index with its low bit replaced. -/
theorem index_with_lowBit (x : BitVec 9) {b : Nat} (hb : b < 2) :
    (x &&& 0x1FE) ||| BitVec.ofNat 9 b = BitVec.ofNat 9 (x.toNat / 2 * 2 + b) := by
  have hx := x.isLt
  apply BitVec.eq_of_toNat_eq
  rw [BitVec.toNat_or, toNat_maskLowBit, BitVec.toNat_ofNat, BitVec.toNat_ofNat, Nat.mod_eq_of_lt (a := b) (by omega),
    ← Nat.shiftLeft_add_eq_or_of_lt hb, Nat.shiftLeft_eq]
  omega

/-- The leading one of a word is one of its 32 bits. -/
theorem log2_toNat_le (x : Word) : x.toNat.log2 ≤ 31 := by
  by_cases h : x.toNat = 0
  · rw [h]
    decide
  · exact Nat.le_of_lt_succ ((Nat.log2_lt h).mpr x.isLt)

/-- The right shift of R344 is the position of the leading one. -/
theorem normalShift_eq (data : Word) : 31 - clz32 data = data.toNat.log2 :=
  Nat.sub_sub_self (log2_toNat_le data)

/-! ### The result (R344, R347) -/

/-- A table entry below its implied leading one, scaled. -/
theorem scaledEntry_eq (entry : Half) (n : Nat) :
    ((0x10000 ||| entry.setWidth 32 : Word) <<< 14) >>> n =
      BitVec.ofNat 32 ((0x10000 + entry.toNat) * 2 ^ 14 / 2 ^ n) := by
  have hentry := entry.isLt
  have hone : (0x10000 ||| entry.setWidth 32 : Word).toNat = 0x10000 + entry.toNat := by
    rw [BitVec.toNat_or, BitVec.toNat_setWidth, Nat.mod_eq_of_lt (by omega)]
    exact (Nat.shiftLeft_add_eq_or_of_lt hentry 1).symm
  have hfits : (0x10000 + entry.toNat) * 2 ^ 14 < 2 ^ 32 := by omega
  apply BitVec.eq_of_toNat_eq
  rw [BitVec.toNat_ushiftRight, BitVec.toNat_shiftLeft, hone, Nat.shiftLeft_eq, Nat.mod_eq_of_lt hfits,
    Nat.shiftRight_eq_div_pow, BitVec.toNat_ofNat, Nat.mod_eq_of_lt ((Nat.div_le_self _ _).trans_lt hfits)]

/-- The result is that of the rule where the table entry and the shift are. -/
theorem divResult_eq_divideValue {input : Word} {entry : Word → Half} {shift : Word → Nat} {entry' : Nat → Half}
    {shift' : Nat → Nat} (hentry : ∀ data, entry data = entry' data.toNat)
    (hshift : ∀ data, shift data = shift' data.toNat) :
    divResult input entry shift = divideValue input entry' shift' := by
  have hzero : divData input = 0 ↔ magnitude input.toInt = 0 := by
    rw [← divData_toNat, ← BitVec.toNat_inj]
    rfl
  have hsign (r : Word) : r ^^^ divMask input = if input.toInt < 0 then ~~~r else r := by
    rw [divMask_eq]
    split_ifs
    · exact BitVec.xor_allOnes
    · exact BitVec.xor_zero
  simp only [divResult, divideValue, hzero, hsign, scaledEntry_eq, hentry, hshift, divData_toNat]

theorem reciprocal_eq (input : Word) : reciprocal input = reciprocalValue input :=
  divResult_eq_divideValue (fun data => congrArg Config.rcpRom (divIndex_eq data)) normalShift_eq

theorem reciprocalSqrt_eq (input : Word) : reciprocalSqrt input = reciprocalSqrtValue input := by
  refine divResult_eq_divideValue (fun data => congrArg Config.rsqRom ?_)
    fun data => congrArg (· / 2) (normalShift_eq data)
  rw [index_with_lowBit _ (Nat.mod_lt _ (by decide)), divIndex_toNat]
  rfl

/-! ### The instructions (R344-R351) -/

section
variable {w : Word} {i : Instr} {s : State} {vd : Reg} {de : BitVec 5} {vt : Reg} {e : Elem}

/-- A word of VRCP, VRCPL, VRSQ or VRSQL, with the result in the rule's terms. -/
theorem means_divide {f f' : Word → Word} {low : Bool} (hdecode : decode w = .ok i)
    (hexec : exec i s = s.divide f low vd de vt e) (hf : ∀ input, f input = f' input) :
    let r := f' (s.divInput low (s.divSource vt e))
    Means w i s (fun t =>
      WritesOneLane s t vd de vt e (r.extractLsb' 0 16) ∧
      t.divOut = r.extractLsb' 16 16 ∧ t.divDp = false ∧ t.divIn = s.divIn) := by
  obtain rfl := funext hf
  exact ⟨hdecode, _, hexec, setSingleLane_spec s vd de vt e _ s.divIn _ false, rfl, rfl, rfl⟩

/-- A word of VRCPH or VRSQH. -/
theorem means_divideHigh (hdecode : decode w = .ok i) (hexec : exec i s = s.divideHigh vd de vt e) :
    Means w i s (fun t =>
      WritesOneLane s t vd de vt e s.divOut ∧
      t.divIn = s.lane vt (Fin.ofNat 8 e.toNat) ∧ t.divDp = true ∧ t.divOut = s.divOut) :=
  ⟨hdecode, _, hexec, setSingleLane_spec s vd de vt e _ _ s.divOut true, rfl, rfl, rfl⟩

/-- A word whose instruction only ends its cycle. -/
theorem means_noEffect (hdecode : decode w = .ok i) (hexec : exec i s = .next s.retire) :
    Means w i s (NoEffect s) :=
  ⟨hdecode, _, hexec, retire_noEffect s⟩

end

/-- Settles O36: each word's instruction writes the result of its rule, for any contents of the tables. -/
theorem reciprocalResults : Obligations.ReciprocalResults := fun _ vd de vt e =>
  ⟨means_divide (low := false) (f' := reciprocalValue) (decode_vrcp e vt de vd) rfl reciprocal_eq,
   means_divide (low := true) (f' := reciprocalValue) (decode_vrcpl e vt de vd) rfl reciprocal_eq,
   means_divide (low := false) (f' := reciprocalSqrtValue) (decode_vrsq e vt de vd) rfl reciprocalSqrt_eq,
   means_divide (low := true) (f' := reciprocalSqrtValue) (decode_vrsql e vt de vd) rfl reciprocalSqrt_eq⟩

/-- Settles O37: VRCPH and VRSQH have one meaning; VMOV moves the lane its element selector names. -/
theorem singleLaneMoves : Obligations.SingleLaneMoves := fun s vd de vt e =>
  ⟨means_divideHigh (decode_vrcph e vt de vd) rfl,
   means_divideHigh (decode_vrsqh e vt de vd) rfl,
   decode_vmov e vt de vd, _, rfl,
   setSingleLane_spec s vd de vt e _ s.divIn s.divOut s.divDp, rfl, rfl, rfl⟩

/-- Settles O38: the high instruction leaves its source in DIVIN and sets DIVDP; what runs between keeps both; so the
low one takes its 32-bit input. -/
theorem doublePrecisionReciprocal : Obligations.DoublePrecisionReciprocal := by
  intro s t u v d1 de1 vt1 d2 de2 vt2 e1 e2 i hi hhigh ht hdivide hu hv
  obtain ⟨hrcph, hrsqh, -⟩ := singleLaneMoves s d1 de1 vt1 e1
  obtain ⟨-, hrcpl, -⟩ := reciprocalResults u d2 de2 vt2 e2
  have hloaded : t.divIn = s.lane vt1 (Fin.ofNat 8 e1.toNat) ∧ t.divDp = true := by
    obtain rfl | rfl := hhigh
    · obtain ⟨-, hin, hdp, -⟩ := means_next hrcph ht
      exact ⟨hin, hdp⟩
    · obtain ⟨-, hin, hdp, -⟩ := means_next hrsqh ht
      exact ⟨hin, hdp⟩
  obtain ⟨hin, hdp⟩ := hloaded
  obtain ⟨-, -, hkept, -⟩ := vectorStateOwnership i t u hu
  obtain ⟨hin', -, hdp'⟩ := hkept hdivide
  obtain ⟨⟨hlane, -⟩, hout, hclear, -⟩ := means_next hrcpl hv
  rw [if_pos (hdp'.trans hdp), hin', hin] at hlane hout
  exact ⟨(hlane _).trans (if_pos rfl), hout, hclear⟩

/-- Settles O20: each of the four only ends its cycle. -/
theorem noEffectInstructions : Obligations.NoEffectInstructions := fun _ code rt rd e ignored vt vs vd =>
  ⟨means_noEffect (decode_brk code) rfl, means_noEffect (decode_mtc0 rt rd e ignored) rfl,
   means_noEffect (decode_vnop e vt vs vd) rfl, means_noEffect (decode_vnull e vt vs vd) rfl⟩

end Sys2Proof.Machine
end

section
/-! Vector loads (48_vector_loadstore.md, R370-R381): a run of bytes, the rotated window and the transposed group in
numbers, and each instruction as the register bytes or lanes of its rule. -/

namespace Sys2Proof.Machine

variable {s : State} {vt base : Reg} {e : Elem} {addr : Word}

/-! ### Runs of bytes (R372-R375) -/

/-- Bytes `e` to `e + n - 1`, as far as the register has them; `n'` is the rule's own count, which differs at most where
the run would pass byte 15. -/
theorem inRun_iff {n n' : Nat} (hn : min (e.toNat + n) 16 = min (e.toNat + n') 16) (k : Elem) :
    (e.toNat ≤ k.toNat ∧ k.toNat < e.toNat + n) ↔ (e.toNat ≤ k.toNat ∧ k.toNat < min (e.toNat + n') 16) := by
  have hk := k.isLt
  omega

/-- The register bytes from `e` on that take a run of bytes of memory, none past byte 15 (R373). -/
theorem loadRun_getD {n n' : Nat} (hn : min (e.toNat + n) 16 = min (e.toNat + n') 16) (k : Elem) :
    (s.loadRun n e addr k).getD (s.vbyte vt k) =
      if e.toNat ≤ k.toNat ∧ k.toNat < min (e.toNat + n') 16 then
        s.dm (addr + BitVec.ofNat 32 (k.toNat - e.toNat))
      else s.vbyte vt k := by
  rw [State.loadRun, if_congr (inRun_iff hn k) rfl rfl]
  split <;> rfl

/-- The end of an LQV: the 16-byte boundary of memory or the end of the register, whichever is first (R374). -/
theorem quadRun_end (e : Elem) (addr : Word) :
    min (e.toNat + (16 - quadOffset addr)) 16 =
      min (e.toNat + min (16 - addr.toNat % 16) (16 - e.toNat)) 16 := by
  rw [quadOffset_eq]
  omega

theorem quadBase_add (addr : Word) (k : Nat) :
    quadBase addr + BitVec.ofNat 32 k = BitVec.ofNat 32 (addr.toNat / 16 * 16 + k) := by
  rw [BitVec.ofNat_add, ← quadBase_toNat, BitVec.ofNat_toNat, BitVec.setWidth_eq]

/-- Settles O39: each run as the register bytes that take it, and LRV as the bytes from `start` on. -/
theorem vectorRunLoads : Obligations.VectorRunLoads := by
  refine fun s vt base e offset =>
    ⟨means_setVbytes (decode_lbv base vt e offset) rfl (loadRun_getD rfl),
     means_setVbytes (decode_lsv base vt e offset) rfl (loadRun_getD rfl),
     means_setVbytes (decode_llv base vt e offset) rfl (loadRun_getD rfl),
     means_setVbytes (decode_ldv base vt e offset) rfl (loadRun_getD rfl),
     means_setVbytes (decode_lqv base vt e offset) rfl (loadRun_getD (quadRun_end e _)),
     means_setVbytes (decode_lrv base vt e offset) rfl fun k => ?_⟩
  rw [quadOffset_eq]
  split
  · rw [quadBase_add]; rfl
  · rfl

/-! ### The rotated window (R376-R379) -/

/-- Byte `i` of the window rotated by `e`, in numbers (R376). -/
theorem packedByte_eq (addr : Word) (e : Elem) (i : Nat) :
    windowByte (windowBase addr) (packedIndex addr e + BitVec.ofNat 4 i) =
      BitVec.ofNat 32 (addr.toNat / 8 * 8 + (addr.toNat % 8 + 16 - e.toNat + i) % 16) := by
  have he := e.isLt
  have hindex : (packedIndex addr e + BitVec.ofNat 4 i).toNat = (addr.toNat % 8 + 16 - e.toNat + i) % 16 := by
    rw [BitVec.toNat_add, packedIndex, BitVec.toNat_sub, windowPlace_toNat, BitVec.toNat_ofNat]
    omega
  rw [windowByte_eq, hindex]

/-- A byte shifted left in a lane, as a product. -/
theorem shiftedByte_eq (b : Byte) (n : Nat) : b.setWidth 16 <<< n = BitVec.ofNat 16 (b.toNat * 2 ^ n) := by
  apply BitVec.eq_of_toNat_eq
  rw [BitVec.toNat_shiftLeft, BitVec.toNat_setWidth_of_le (by decide), Nat.shiftLeft_eq, BitVec.toNat_ofNat]

/-- A word whose instruction writes every lane from the rotated window, with the lanes in the rule's terms. -/
theorem means_loadPacked {w : Word} {i : Instr} {step shift : Nat} {lanes : Fin 8 → Half} (hdecode : decode w = .ok i)
    (hexec : exec i s = s.loadPacked vt e addr step shift)
    (hlanes : ∀ j : Fin 8, BitVec.ofNat 16 ((s.dm (BitVec.ofNat 32
      (addr.toNat / 8 * 8 + (addr.toNat % 8 + 16 - e.toNat + step * j) % 16))).toNat * 2 ^ shift) = lanes j) :
    Means w i s (fun t => WritesVlanes s t vt lanes) := by
  refine ⟨hdecode, _, hexec, ?_⟩
  simp only [packedByte_eq, shiftedByte_eq, hlanes]
  exact setVreg_spec s vt lanes

/-- Settles O40: the lanes of each packed load, and the bytes of the lanes LFV builds. -/
theorem vectorPackedLoads : Obligations.VectorPackedLoads := by
  refine fun s vt base e offset =>
    ⟨means_loadPacked (decode_lpv base vt e offset) rfl fun j => by rw [Nat.one_mul]; rfl,
     means_loadPacked (decode_luv base vt e offset) rfl fun j => by rw [Nat.one_mul]; rfl,
     means_loadPacked (decode_lhv base vt e offset) rfl fun j => rfl,
     means_setVbytes (decode_lfv base vt e offset) rfl fun k => ?_⟩
  rw [if_congr (inRun_iff rfl k) rfl rfl]
  split
  · simp only [Option.getD_some, VReg.byte, State.fourthTmp, Vector.getElem_ofFn, packedByte_eq, shiftedByte_eq]
    rfl
  · rfl

/-! ### The transposed group (R381) -/

/-- Bit 3 of an address as a byte of the window. -/
theorem windowHalf_toNat (addr : Word) : ((addr &&& 8).setWidth 4 : Elem).toNat = addr.toNat / 8 % 2 * 8 := by
  have hbit : (addr &&& 8).toNat = addr.toNat / 8 % 2 * 8 := by
    rw [BitVec.toNat_and]
    exact (Nat.and_two_pow addr.toNat 3).trans (congrArg (· * 8) (Nat.toNat_testBit ..))
  rw [BitVec.toNat_setWidth, hbit]
  omega

theorem transposedByte_eq (addr : Word) (e : Elem) (m : Nat) :
    transposedByte addr e m =
      BitVec.ofNat 32 (addr.toNat / 8 * 8 + (e.toNat + addr.toNat / 8 % 2 * 8 + m) % 16) := by
  have hindex : (e + (addr &&& 8).setWidth 4 + BitVec.ofNat 4 m).toNat =
      (e.toNat + addr.toNat / 8 % 2 * 8 + m) % 16 := by
    rw [BitVec.toNat_add, BitVec.toNat_add, windowHalf_toNat, BitVec.toNat_ofNat]
    omega
  rw [transposedByte, windowByte_eq, hindex]

/-- The lane of register `n` that LTV writes is the one its rule names. -/
theorem eq_transposedLane_iff (e : Elem) (n : Nat) (i : Fin 8) :
    i = transposedLane e n ↔ (e.toNat / 2 + i) % 8 = n % 8 := by
  have he := e.isLt
  have hi := i.isLt
  rw [Fin.ext_iff, transposedLane, Fin.val_ofNat]
  omega

/-- Settles O41: a register outside the group is kept, and one inside it has its one lane replaced. -/
theorem transposedLoad : Obligations.TransposedLoad := by
  refine fun s vt base e offset => ⟨decode_ltv base vt e offset, _, rfl, fun n i => ?_, fun _ => rfl, ⟨rfl, rfl, rfl⟩,
    ⟨rfl, rfl, rfl⟩, fun _ => rfl, fun _ => rfl, fun _ => rfl, ⟨rfl, rfl, rfl⟩, rfl, retires_retire rfl rfl rfl⟩
  rw [retire_lane]
  simp only [State.lane, State.vreg, Vector.getElem_ofFn, ← transposedByte_eq, ← eq_transposedLane_iff]
  by_cases hg : n.toNat / 8 = vt.toNat / 8
  · by_cases hi : i = transposedLane e n.toNat
    · subst hi
      simp [hg]
    · have hne : (transposedLane e n.toNat).val ≠ i.val := fun h => hi (Fin.ext h.symm)
      simp [hg, hi, hne]
  · simp [hg]

end Sys2Proof.Machine
end

section
/-! Vector stores (48_vector_loadstore.md, R382-R391): the register bytes each takes in the rules' own terms, each
instruction as the store of its rule, and the quad stores and loads at any alignment. -/

namespace Sys2Proof.Machine

variable {s t : State} {w : Word} {i : Instr} {n : Nat} {addr : Nat → Word} {b b' : Nat → Byte}

/-! ### The shape of the family (R371) -/

/-- A word whose instruction stores bytes at addresses that differ, with the bytes in the rule's terms. -/
theorem means_storeVbytes (hdecode : decode w = .ok i) (hexec : exec i s = s.storeVbytes n addr b)
    (hd : ∀ i < n, ∀ j < n, (addr i).toNat % 4096 = (addr j).toNat % 4096 → i = j) (hb : ∀ k < n, b k = b' k) :
    Means w i s (fun t => Stores s t n addr b') :=
  ⟨hdecode, _, hexec, stores_congr hb (store_spec s n addr b hd)⟩

/-! ### Runs of bytes (R382-R385) -/

theorem wrappedByte_eq (s : State) (vt : Reg) (e : Elem) (k : Nat) :
    s.wrappedByte vt e k = s.vbyte vt (BitVec.ofNat 4 (e.toNat + k)) := by
  rw [State.wrappedByte, BitVec.ofNat_add, BitVec.ofNat_toNat, BitVec.setWidth_eq]

/-- A word whose instruction stores a run of register bytes to consecutive addresses. -/
theorem means_storeRun {vt : Reg} {e : Elem} {a : Word} {first : Nat} (hdecode : decode w = .ok i)
    (hexec : exec i s = s.storeVbytes n (runAddr a) (fun k => s.wrappedByte vt e (k + first))) (hn : n ≤ 4096) :
    Means w i s (fun t => Stores s t n (runAddr a) (fun k => s.vbyte vt (BitVec.ofNat 4 (e.toNat + (k + first))))) :=
  means_storeVbytes hdecode hexec (runAddr_distinct a n hn) fun k _ => wrappedByte_eq s vt e (k + first)

/-- Settles O43: each is a run of register bytes; SRV's starts where SQV's at the same address would end. -/
theorem vectorRunStores : Obligations.VectorRunStores := by
  intro s vt base e offset byte quad
  refine ⟨means_storeRun (first := 0) (decode_sbv base vt e offset) rfl (by decide),
    means_storeRun (first := 0) (decode_ssv base vt e offset) rfl (by decide),
    means_storeRun (first := 0) (decode_slv base vt e offset) rfl (by decide),
    means_storeRun (first := 0) (decode_sdv base vt e offset) rfl (by decide),
    means_storeRun (first := 0) (decode_sqv base vt e offset) rfl ?_, ?_⟩
  · rw [quadOffset_eq]; omega
  · have hoffset := quadOffset_eq quad
    rw [← hoffset]
    exact means_storeRun (decode_srv base vt e offset) rfl (by omega)

/-! ### Packed stores (R386-R390) -/

theorem highByte_eq (s : State) (vt : Reg) (o : Nat) :
    s.highByte vt o = (s.lane vt (Fin.ofNat 8 o)).extractLsb' 8 8 := vbyte_even s vt (Fin.ofNat 8 o)

/-- The byte SHV makes of two neighbouring bytes, in numbers (R388). -/
theorem joinedByte_eq (x y : Byte) : x <<< 1 ||| y >>> 7 = BitVec.ofNat 8 (x.toNat * 2 + y.toNat / 128) := by
  have hy := y.isLt
  have hjoin : x <<< 1 ||| y >>> 7 = x <<< 1 + y >>> 7 := by
    rw [BitVec.add_eq_or_of_and_eq_zero]
    apply BitVec.eq_of_getLsbD_eq
    intro j hj
    rw [BitVec.getLsbD_and, BitVec.getLsbD_shiftLeft, BitVec.getLsbD_ushiftRight, BitVec.getLsbD_zero]
    by_cases h : j < 1
    · simp [h]
    · simp [BitVec.getLsbD_of_ge y (7 + j) (by omega)]
  apply BitVec.eq_of_toNat_eq
  rw [hjoin, BitVec.toNat_add, BitVec.toNat_shiftLeft, BitVec.toNat_ushiftRight, BitVec.toNat_ofNat,
    Nat.shiftLeft_eq, Nat.shiftRight_eq_div_pow]
  omega

/-- The table of R389, its lanes as numbers. -/
theorem fourthLanes_eq (e : Elem) :
    (fourthLanes e).map Fin.val =
      if e = 0 ∨ e = 15 then [0, 1, 2, 3] else if e = 1 then [6, 7, 4, 5]
      else if e = 4 then [1, 2, 3, 0] else if e = 5 then [7, 4, 5, 6]
      else if e = 8 then [4, 5, 6, 7] else if e = 11 then [3, 0, 1, 2]
      else if e = 12 then [5, 6, 7, 4] else [] := by
  revert e
  decide

/-- Settles O44: the byte of each lane, the joined bytes of SHV, the table of SFV and the run of SWV. -/
theorem vectorPackedStores : Obligations.VectorPackedStores := by
  refine fun s vt base e offset =>
    ⟨means_storeVbytes (decode_spv base vt e offset) rfl (runAddr_distinct _ 8 (by decide)) fun k _ => ?spv,
     means_storeVbytes (decode_suv base vt e offset) rfl (runAddr_distinct _ 8 (by decide)) fun k _ => ?suv,
     means_storeVbytes (decode_shv base vt e offset) rfl (windowAddr_distinct _ 8 2 (by decide) (by decide))
       fun k _ => ?shv,
     means_storeVbytes (decode_sfv base vt e offset) rfl (windowAddr_distinct _ 4 4 (by decide) (by decide))
       fun k _ => ?sfv,
     means_storeVbytes (decode_swv base vt e offset) rfl ?window fun k _ => wrappedByte_eq s vt e k⟩
  case spv | suv => rw [highByte_eq]; rfl
  case shv => rw [joinedByte_eq, wrappedByte_eq, wrappedByte_eq]
  case sfv =>
    rw [← fourthLanes_eq, List.getElem?_map]
    cases (fourthLanes e)[k]? with
    | none => rfl
    | some lane => simp
  case window => simpa using windowAddr_distinct (s.vaddr base offset 16) 16 1 (by decide) (by decide)

/-! ### The transposed group (R391) -/

theorem groupReg_eq (vt : Reg) (k : Nat) : groupReg vt k = BitVec.ofNat 5 (vt.toNat / 8 * 8 + k) := by
  have hgroup : (vt &&& ~~~7).toNat = vt.toNat / 8 * 8 := clearLow_toNat vt 3
  rw [groupReg, BitVec.ofNat_add, ← hgroup, BitVec.ofNat_toNat, BitVec.setWidth_eq]

/-- The register byte STV takes as byte `m` of the sixteen, in numbers. -/
theorem transposedElem_eq (e : Elem) (m : Nat) :
    BitVec.ofNat 4 m - (e &&& ~~~1) = BitVec.ofNat 4 (16 - e.toNat / 2 * 2 + m) := by
  have he := e.isLt
  apply BitVec.eq_of_toNat_eq
  rw [BitVec.toNat_sub, evenElem_toNat, BitVec.toNat_ofNat, BitVec.toNat_ofNat]
  omega

/-- Settles O45: the sixteen bytes of the group, each to its place in the window. -/
theorem transposedStore : Obligations.TransposedStore := by
  refine fun s vt base e offset =>
    means_storeVbytes (decode_stv base vt e offset) rfl (transposedStoreAddr_distinct _ e) fun m _ => ?_
  rw [groupReg_eq, transposedElem_eq]

end Sys2Proof.Machine
end

section
/-! The quad stores and loads over two neighbouring addresses (R374, R375, R384, R385): together they move a whole
register at any alignment. -/

namespace Sys2Proof.Machine

variable {s t u v w : State} {vt vd base : Reg} {offset : BitVec 7} {a : Word}

/-- One more offset is one more quad, below the last of the range. -/
theorem vaddr_succ (s : State) (base : Reg) (h : offset ≠ 0x3F) :
    s.vaddr base (offset + 1) 16 = s.vaddr base offset 16 + 16 := by
  have hsucc : ∀ o : BitVec 7, o ≠ 0x3F → (o + 1).signExtend 32 = o.signExtend 32 + 1#32 := by decide
  rw [State.vaddr, State.vaddr, hsucc offset h, BitVec.add_mul, BitVec.add_assoc]
  rfl

theorem vaddr_congr (h : SameScalar s t) (base : Reg) (offset : BitVec 7) (scale : Nat) :
    t.vaddr base offset scale = s.vaddr base offset scale := by
  rw [State.vaddr, State.vaddr, h base]

/-- Sixteen bytes on, an address has the same place in its quad. -/
theorem quadPlace_add (a : Word) : (a + 16).toNat % 16 = a.toNat % 16 := by
  have h16 : (16 : Word).toNat = 16 := rfl
  rw [BitVec.toNat_add, h16]
  omega

/-- The boundary below sixteen bytes on is where a quad run from `a` ends, as a place in data memory. -/
theorem quadBase_add_place (a : Word) (k : Nat) :
    (runAddr (quadBase (a + 16)) k).toNat % 4096 = (a.toNat + (16 - a.toNat % 16 + k)) % 4096 := by
  have h16 : (16 : Word).toNat = 16 := rfl
  rw [runAddr, word_add_toNat, quadBase_toNat, BitVec.toNat_add, h16]
  omega

/-- A run of bytes from `a` up to the boundary, and one from the boundary on, put sixteen bytes at `a` and the addresses
after it. -/
theorem dm_of_quadStores {byte : Nat → Byte} (hsqv : Stores s t (16 - a.toNat % 16) (runAddr a) byte)
    (hsrv : Stores t u (a.toNat % 16) (runAddr (quadBase (a + 16))) fun k => byte (k + (16 - a.toNat % 16)))
    {k : Nat} (hk : k < 16) : u.dm (a + BitVec.ofNat 32 k) = byte k := by
  obtain ⟨hlow, -⟩ := hsqv
  obtain ⟨hhigh, hframe, -⟩ := hsrv
  by_cases hrun : k < 16 - a.toNat % 16
  · have hkept : u.dm (a + BitVec.ofNat 32 k) = t.dm (a + BitVec.ofNat 32 k) := hframe _ fun m hm => by
      rw [quadBase_add_place, word_add_toNat]
      omega
    exact hkept.trans (hlow k hrun)
  · obtain ⟨m, rfl⟩ : ∃ m, k = m + (16 - a.toNat % 16) := ⟨k - (16 - a.toNat % 16), by omega⟩
    have hplace : (a + BitVec.ofNat 32 (m + (16 - a.toNat % 16))).toNat % 4096 =
        (runAddr (quadBase (a + 16)) m).toNat % 4096 := by
      rw [quadBase_add_place, word_add_toNat, Nat.add_comm m]
    rw [dm_congr u hplace, hhigh m (by omega)]

/-- LQV at `a` and LRV sixteen bytes on, element 0, load the sixteen bytes at `a` and the addresses after it. -/
theorem vbyte_of_quadLoads (hoffset : offset ≠ 0x3F) (hlqv : exec (.lqv vd 0 offset base) u = .next v)
    (hlrv : exec (.lrv vd 0 (offset + 1) base) v = .next w) (k : Elem) :
    w.vbyte vd k = u.dm (u.vaddr base offset 16 + BitVec.ofNat 32 k.toNat) := by
  have hk := k.isLt
  obtain ⟨-, -, -, -, hq, -⟩ := vectorRunLoads u vd base 0 offset
  obtain ⟨-, -, -, -, -, hr⟩ := vectorRunLoads v vd base 0 (offset + 1)
  obtain ⟨hlow, -, -, -, -, hscalar, hdmem, -⟩ := means_next hq hlqv
  obtain ⟨hhigh, -⟩ := means_next hr hlrv
  have hzero : (0 : Elem).toNat = 0 := rfl
  simp only [vaddr_succ v base hoffset, vaddr_congr hscalar, quadPlace_add, ← quadBase_add, hzero, Nat.add_zero]
    at hhigh
  by_cases hrun : 16 - (u.vaddr base offset 16).toNat % 16 ≤ k.toNat
  · rw [hhigh, if_pos hrun, hdmem]
    apply dm_congr
    rw [← runAddr, quadBase_add_place, word_add_toNat]
    omega
  · rw [hhigh, if_neg hrun]
    exact (hlow k).trans (if_pos ⟨Nat.zero_le _, by rw [hzero]; omega⟩)

/-- Settles O46: the stores leave the register's bytes at sixteen addresses, and the loads read those. -/
theorem unalignedQuadRoundTrip : Obligations.UnalignedQuadRoundTrip := by
  intro s t u v w vt vd base offset hoffset hsqv hsrv hlqv hlrv
  obtain ⟨-, -, -, -, hq, -⟩ := vectorRunStores s vt base 0 offset
  obtain ⟨-, -, -, -, -, hr⟩ := vectorRunStores t vt base 0 (offset + 1)
  have hlow := means_next hq hsqv
  have hhigh := means_next hr hsrv
  obtain ⟨-, -, hscalar, ⟨hvregs, -⟩, -⟩ := means_next hq hsqv
  obtain ⟨-, -, hscalar', -⟩ := means_next hr hsrv
  simp only [vaddr_succ t base hoffset, vaddr_congr hscalar, quadOffset_eq, quadPlace_add, vbyte_of_vreg (hvregs vt)]
    at hlow hhigh
  have hzero : (0 : Elem).toNat = 0 := rfl
  have hbytes (k : Nat) (hk : k < 16) :
      u.dm (s.vaddr base offset 16 + BitVec.ofNat 32 k) = s.vbyte vt (BitVec.ofNat 4 k) := by
    rw [dm_of_quadStores hlow hhigh hk, hzero, Nat.zero_add]
  refine ⟨hbytes, vreg_eq_of_vbyte fun k => ?_⟩
  rw [vbyte_of_quadLoads hoffset hlqv hlrv, vaddr_congr hscalar', vaddr_congr hscalar, hbytes k.toNat k.isLt,
    BitVec.ofNat_toNat, BitVec.setWidth_eq]

end Sys2Proof.Machine
end

section
/-! One step of the engine (49_control_loop.md, R412-R413): the decoder's verdict on the four fetched bytes is its verdict
on the fetched word, and a word placed where the next cycle fetches is the word it fetches (R472). -/

namespace Sys2Proof.Machine

variable {s : State} {i : Instr}

/-! ### The decoded instruction (R77, R120, R413) -/

theorem cycle_of_decode (h : decode s.fetch = .ok i) : cycle s = exec i s := by
  rw [cycle, h]

/-- An ILLEGAL word only ends its cycle (R120). -/
theorem cycle_of_illegal {r : DecodeReject} (h : decode s.fetch = .error r) : cycle s = .next s.retire := by
  rw [cycle, h]
  rfl

/-- The fetched word decodes as the four bytes at `P` do. -/
theorem decodeBytes_fetched (s : State) :
    decodeBytes [s.im (cyclePc s), s.im (cyclePc s + 1), s.im (cyclePc s + 2), s.im (cyclePc s + 3)] =
      (decode s.fetch).map (·, []) := by
  rw [fetch_bytes, decodeBytes]
  split
  · next h => rw [h]; rfl
  · next h => rw [h]; rfl

/-- Settles O50: marked, halted, an instruction, and an ILLEGAL word. -/
theorem stepRunsDecodedInstruction : Obligations.StepRunsDecodedInstruction := by
  refine fun s => ⟨fun r => step_marked, step_halted, fun hm hh i rest hd => ?_, fun hm hh r hd => ?_⟩
  all_goals
    rw [decodeBytes_fetched] at hd
    rw [step_running hm hh]
  · cases hf : decode s.fetch with
    | ok j =>
      rw [hf] at hd
      cases hd
      exact cycle_of_decode hf
    | error => rw [hf] at hd; cases hd
  · cases hf : decode s.fetch with
    | ok => rw [hf] at hd; cases hd
    | error => exact ⟨_, cycle_of_illegal hf, retire_noEffect s⟩

/-! ### The placed instruction (R472) -/

/-- The four bytes of the word at `P` are four places of instruction memory in a row. -/
theorem fetchedBytes_place (s : State) :
    (cyclePc s).toNat % 4096 = (cyclePc s).toNat ∧ (cyclePc s + 1).toNat % 4096 = (cyclePc s).toNat + 1 ∧
      (cyclePc s + 2).toNat % 4096 = (cyclePc s).toNat + 2 ∧
      (cyclePc s + 3).toNat % 4096 = (cyclePc s).toNat + 3 := by
  have hP : (cyclePc s).toNat = s.pc.toNat / 4 % 1024 * 4 := masked_toNat s.pc
  have add (k : Nat) : (cyclePc s + BitVec.ofNat 32 k).toNat % 4096 = ((cyclePc s).toNat + k) % 4096 :=
    word_add_toNat (cyclePc s) k
  exact ⟨by omega, (add 1).trans (by omega), (add 2).trans (by omega), (add 3).trans (by omega)⟩

/-- Instruction memory after a word is placed where the next cycle fetches. -/
theorem im_withFetchWord (s : State) (w a : Word) :
    (s.withFetchWord 32 w.toNat).im a =
      if a.toNat % 4096 = (cyclePc s).toNat + 3 then w.extractLsb' 0 8
      else if a.toNat % 4096 = (cyclePc s).toNat + 2 then w.extractLsb' 8 8
      else if a.toNat % 4096 = (cyclePc s).toNat + 1 then w.extractLsb' 16 8
      else if a.toNat % 4096 = (cyclePc s).toNat then w.extractLsb' 24 8 else s.im a := by
  obtain ⟨h0, h1, h2, h3⟩ := fetchedBytes_place s
  have hbytes : (s.withFetchWord 32 w.toNat).im a =
      ((((s.putIm (cyclePc s) (w.extractLsb' 24 8)).putIm (cyclePc s + 1) (w.extractLsb' 16 8)).putIm
        (cyclePc s + 2) (w.extractLsb' 8 8)).putIm (cyclePc s + 3) (w.extractLsb' 0 8)).im a := by
    rw [State.withFetchWord, tableWord_toNat, fetchAddr_word]
    rfl
  rw [hbytes]
  simp only [im_putIm, h0, h1, h2, h3]

/-- Placing a word changes instruction memory and `halted` alone. -/
theorem withFetchWord_frame (s : State) (nbits w : Nat) :
    s.withFetchWord nbits w = { s with imem := (s.withFetchWord nbits w).imem, halted := false } := by
  simp only [State.withFetchWord, State.putIm]

theorem withFetchWord_pc (s : State) (nbits w : Nat) : (s.withFetchWord nbits w).pc = s.pc := by
  simp only [State.withFetchWord, putIm_pc]

theorem withFetchWord_refused (s : State) (nbits w : Nat) : (s.withFetchWord nbits w).refused = s.refused := by
  simp only [State.withFetchWord, putIm_refused]

/-- The placed word is the one the next cycle fetches. -/
theorem fetch_withFetchWord (s : State) (w : Word) : (s.withFetchWord 32 w.toNat).fetch = w := by
  obtain ⟨h0, h1, h2, h3⟩ := fetchedBytes_place s
  have hpc : cyclePc (s.withFetchWord 32 w.toNat) = cyclePc s := by rw [cyclePc, withFetchWord_pc, cyclePc]
  rw [fetch_bytes, hpc]
  simp only [im_withFetchWord, h0, h1, h2, h3]
  simp

/-- An address in another word than the fetched one reads as before. -/
theorem im_withFetchWord_of_ne (s : State) (w : Word) {a : Word}
    (h : a.toNat % 4096 / 4 ≠ (cyclePc s).toNat / 4) : (s.withFetchWord 32 w.toNat).im a = s.im a := by
  have hP : (cyclePc s).toNat = s.pc.toNat / 4 % 1024 * 4 := masked_toNat s.pc
  rw [im_withFetchWord, if_neg (by omega), if_neg (by omega), if_neg (by omega), if_neg (by omega)]

/-- Settles O51: the placed word is fetched and decodes to the instruction it encodes. -/
theorem placedInstructionRunsNext : Obligations.PlacedInstructionRunsNext := by
  intro s i placed
  refine ⟨fun hm => ?_, withFetchWord_frame s 32 _, fun a => im_withFetchWord_of_ne s (encode i)⟩
  have hdecode : decode placed.fetch = .ok i := (congrArg decode (fetch_withFetchWord s _)).trans (decode_encode i)
  exact (step_running ((withFetchWord_refused s 32 _).trans hm) rfl).trans (cycle_of_decode hdecode)

end Sys2Proof.Machine
end

section
/-! Runs of the engine (49_control_loop.md R412-R421, 60_exceptions.md R446): the core's run, the host's `step(count)` and
the run by address each go on by the core's step and end at the first refused one, so that every claim is an induction
over the cycles with one case per answer of a step. -/

namespace Sys2Proof.Machine

variable {s t u : State} {r : Refusal} {stop : RegionAddr} {n k : Nat}

/-! ### The answers of a step (R412, R446) -/

/-- A step answers a next state or a refusal, for there is no fault. -/
theorem step_cases (s : State) : (∃ t, step s = .next t) ∨ ∃ r, step s = .refused r := by
  cases step s with
  | next t => exact .inl ⟨t, rfl⟩
  | fault f => exact nomatch f
  | refused r => exact .inr ⟨r, rfl⟩

/-- A completed cycle keeps the control state and the mark, and is counted (R416). -/
theorem cycle_frame (h : cycle s = .next t) :
    t.halted = s.halted ∧ t.refused = s.refused ∧ t.cycles = s.cycles + 1 := by
  cases hd : decode s.fetch with
  | ok i =>
    obtain ⟨hhalted, -, hrefused, -, hcycles, -⟩ :=
      controlAndMemoryOwnership i s t ((cycle_of_decode hd).symm.trans h)
    exact ⟨hhalted, hrefused, hcycles⟩
  | error =>
    cases (cycle_of_illegal hd).symm.trans h
    exact ⟨rfl, rfl, rfl⟩

/-- A completed step leaves an unmarked state in the same control state, and counts a cycle unless halted. -/
theorem step_next_frame (h : step s = .next t) :
    t.refused = none ∧ t.halted = s.halted ∧ (s.halted = false → t.cycles = s.cycles + 1) := by
  obtain ⟨hm, h⟩ := step_next h
  split at h
  · next hh =>
    cases h
    exact ⟨hm, rfl, fun hf => absurd hh (by simp [hf])⟩
  · obtain ⟨hhalted, hrefused, hcycles⟩ := cycle_frame h
    exact ⟨hrefused.trans hm, hhalted, fun _ => hcycles⟩

/-! ### The run of the core -/

theorem run_succ_next (M : Host.Core) {s t : M.State} (h : M.step s = .next t) (n : Nat) :
    M.run (n + 1) s = M.run n t := by
  rw [Host.Core.run, h]

theorem run_succ_refused (M : Host.Core) {s : M.State} {r : M.Refusal} (h : M.step s = .refused r) (n : Nat) :
    M.run (n + 1) s = .refused r := by
  rw [Host.Core.run, h]

theorem coreRun_zero_next : Sys2Proof.core.run 0 s = .next t ↔ s = t :=
  ⟨fun h => by cases h; rfl, fun h => h ▸ rfl⟩

theorem coreRun_succ_next (h : step s = .next t) (n : Nat) : Sys2Proof.core.run (n + 1) s = Sys2Proof.core.run n t :=
  run_succ_next Sys2Proof.core h n

theorem coreRun_succ_refused (h : step s = .refused r) (n : Nat) : Sys2Proof.core.run (n + 1) s = .refused r :=
  run_succ_refused Sys2Proof.core h n

/-! ### The host's step (R412, R414) -/

theorem hostStep_zero (s : State) : hostStep 0 s = (s, s.refused) := by
  rw [hostStep, runCycles]
  split
  · next h => rw [h]
  · next h => rw [h, ite_self]

theorem hostStep_succ_next (h : step s = .next t) (n : Nat) : hostStep (n + 1) s = hostStep n t := by
  obtain ⟨hmark, hhalted, -⟩ := step_next_frame h
  obtain ⟨hm, h⟩ := step_next h
  split at h
  · next hh =>
    cases h
    rw [hostStep_halted hm hh, hostStep_halted hm hh]
  · next hh =>
    have hh := Bool.eq_false_of_not_eq_true hh
    rw [hostStep_running hm hh, hostStep_running hmark (hhalted.trans hh), runCycles, h]

theorem hostStep_succ_refused (h : step s = .refused r) (n : Nat) :
    hostStep (n + 1) s = (s.markRefused r, some r) := by
  cases hm : s.refused with
  | some first =>
    cases (step_marked hm).symm.trans h
    rw [hostStep_marked hm, markRefused_some hm]
  | none =>
    cases hh : s.halted with
    | true => cases (step_halted hm hh).symm.trans h
    | false => rw [hostStep_running hm hh, runCycles, (step_running hm hh).symm.trans h]

/-- The outcome of a call is the mark it leaves. -/
theorem hostStep_mark (n : Nat) (s : State) : (hostStep n s).1.refused = (hostStep n s).2 := by
  induction n generalizing s with
  | zero => rw [hostStep_zero]
  | succ n ih =>
    obtain ⟨t, h⟩ | ⟨r, h⟩ := step_cases s
    · rw [hostStep_succ_next h, ih]
    · rw [hostStep_succ_refused h]
      cases hm : s.refused with
      | some first =>
        cases (step_marked hm).symm.trans h
        rw [markRefused_some hm, hm]
      | none => rw [markRefused_none hm]

/-- Two calls in a row are one call of all their cycles; after a refusal the second runs none. -/
theorem hostStep_add (m n : Nat) (s : State) : hostStep (m + n) s = hostStep n (hostStep m s).1 := by
  induction m generalizing s with
  | zero => rw [hostStep_zero, Nat.zero_add]
  | succ m ih =>
    rw [Nat.add_right_comm]
    obtain ⟨t, h⟩ | ⟨r, h⟩ := step_cases s
    · rw [hostStep_succ_next h, hostStep_succ_next h, ih]
    · have hmark := hostStep_mark (m + 1) s
      rw [hostStep_succ_refused h] at hmark ⊢
      rw [hostStep_succ_refused h, hostStep_marked hmark]

/-- A call that is not refused keeps the control state and counts each cycle once (R416). -/
theorem hostStep_completed (h : (hostStep n s).2 = none) (hh : s.halted = false) :
    (hostStep n s).1.cycles = s.cycles + n ∧ (hostStep n s).1.halted = false := by
  induction n generalizing s with
  | zero => rw [hostStep_zero]; exact ⟨rfl, hh⟩
  | succ n ih =>
    obtain ⟨t, ht⟩ | ⟨r, hr⟩ := step_cases s
    · obtain ⟨-, hhalted, hcycles⟩ := step_next_frame ht
      rw [hostStep_succ_next ht] at h ⊢
      obtain ⟨hsum, hkept⟩ := ih h (hhalted.trans hh)
      exact ⟨by rw [hsum, hcycles hh, Nat.add_assoc, Nat.add_comm 1], hkept⟩
    · rw [hostStep_succ_refused hr] at h
      cases h

/-! ### The host's step and the run of the core -/

theorem coreRun_of_hostStep (h : (hostStep n s).2 = none) : Sys2Proof.core.run n s = .next (hostStep n s).1 := by
  induction n generalizing s with
  | zero => rw [hostStep_zero]; rfl
  | succ n ih =>
    obtain ⟨t, ht⟩ | ⟨r, hr⟩ := step_cases s
    · rw [hostStep_succ_next ht] at h ⊢
      rw [coreRun_succ_next ht, ih h]
    · rw [hostStep_succ_refused hr] at h
      cases h

theorem hostStep_of_coreRun (hm : s.refused = none) (h : Sys2Proof.core.run n s = .next t) :
    hostStep n s = (t, none) := by
  induction n generalizing s with
  | zero =>
    cases h
    rw [hostStep_zero, hm]
  | succ n ih =>
    obtain ⟨u, hu⟩ | ⟨r, hr⟩ := step_cases s
    · obtain ⟨hmark, -⟩ := step_next_frame hu
      rw [coreRun_succ_next hu] at h
      rw [hostStep_succ_next hu, ih hmark h]
    · rw [coreRun_succ_refused hr] at h
      cases h

/-- A refused run of the core has one refused cycle, and the call ends there with its mark (R414). -/
theorem hostStep_of_coreRun_refused (hm : s.refused = none) (h : Sys2Proof.core.run n s = .refused r) :
    ∃ k < n, ∃ u : State, Sys2Proof.core.run k s = .next u ∧ step u = .refused r ∧
      hostStep n s = ({ u with refused := some r }, some r) := by
  induction n generalizing s with
  | zero => cases h
  | succ n ih =>
    obtain ⟨t, ht⟩ | ⟨q, hq⟩ := step_cases s
    · obtain ⟨hmark, -⟩ := step_next_frame ht
      rw [coreRun_succ_next ht] at h
      obtain ⟨k, hk, u, hu, hrefused, hend⟩ := ih hmark h
      exact ⟨k + 1, Nat.succ_lt_succ hk, u, (coreRun_succ_next ht k).trans hu, hrefused,
        (hostStep_succ_next ht n).trans hend⟩
    · rw [coreRun_succ_refused hq] at h
      cases h
      exact ⟨0, Nat.succ_pos n, s, rfl, hq, by rw [hostStep_succ_refused hq, markRefused_none hm]⟩

/-- Settles O57: the host's call against the run of the core, cycle by cycle, and calls in a row. -/
theorem hostStepRunsCountCycles : Obligations.HostStepRunsCountCycles := by
  refine fun s m n => ⟨fun hh => ?halted, fun hh h => hostStep_completed h hh, fun _ => hostStep_add m n s,
    fun h => ?refused, coreRun_of_hostStep, fun hm t => hostStep_of_coreRun hm, fun hm r h => ?core⟩
  case halted =>
    cases hm : s.refused with
    | none => rw [hostStep_halted hm hh]; exact ⟨rfl, fun _ => rfl⟩
    | some r => rw [hostStep_marked hm]; exact ⟨rfl, nofun⟩
  case refused =>
    obtain ⟨r, hr⟩ := Option.ne_none_iff_exists'.mp h
    rw [hostStep_add, hostStep_marked ((hostStep_mark m s).trans hr), ← hr]
  case core =>
    obtain ⟨k, hk, u, hu, hrefused, hend⟩ := hostStep_of_coreRun_refused hm h
    rw [hend]
    exact ⟨rfl, k, hk, u, hu, hrefused, rfl⟩

/-! ### The mark stays (R414, R446) -/

theorem endByAddress_marked (h : s.refused = some r) : endByAddress stop n s = .refused s r := by
  rw [endByAddress.eq_def, h]

@[simp] theorem writeByte_refused (s : State) (r : Region) (a : Word) (b : Byte) :
    (s.writeByte r a b).refused = s.refused := by
  cases r with
  | imem => exact putIm_refused s a b
  | dmem => exact putDm_refused s a b

theorem setRawScalar_refused {i : Fin 132} {b : Byte} (h : s.setRawScalar i b = some t) : t.refused = s.refused := by
  by_cases hi : i.val < 4
  · rw [setRawScalar_slot_zero s i b hi] at h
    split at h <;> cases h
    rfl
  · obtain ⟨u, hu, -, hframe⟩ := rawScalar_setRawScalar s i b (by omega)
    cases hu.symm.trans h
    rw [hframe]

/-- Settles O15: a transfer in a slot refuses its step, a marked state refuses everything, and the host's writes keep the
mark. -/
theorem refusedCycleLeavesStateButMark : Obligations.RefusedCycleLeavesStateButMark := by
  refine ⟨fun s i n hm hh hd hi hp => ?_, fun s r h => ⟨step_marked h, fun n => ⟨hostStep_marked h n, fun hf => ?_⟩,
    fun _ _ => endByAddress_marked h⟩, fun s n => hostStep_mark n s, fun s => ⟨rfl, fun _ => rfl, fun _ => rfl,
    fun n v => setX_refused s n v, fun i b t => setRawScalar_refused, fun _ _ => rfl, fun _ _ _ => rfl,
    writeByte_refused s, fun r a v => by simp [State.writeWord], fun r i b => writeByte_refused s r _ b⟩⟩
  · obtain ⟨hrefused, -⟩ := refusesExactlyTransfersInSlots i s
    have hstep : step s = .refused .ctiInDelaySlot :=
      (step_running hm hh).trans ((cycle_of_decode hd).trans (hrefused ⟨hi, hp⟩))
    exact ⟨hstep, by rw [hostStep_succ_refused hstep, markRefused_none hm]⟩
  · obtain ⟨hm, -⟩ := hf
    cases hm.symm.trans h

/-! ### The first arrival (R421) -/

/-- A run by address from `s` arrives in `t` within the bound. -/
def Arrives (stop : RegionAddr) (bound : Nat) (s t : State) : Prop := ∃ n ≤ bound, ReachesStop stop n s t

theorem forall_not_arrives :
    (∀ t, ¬Arrives stop k s t) ↔ ∀ n ≤ k, ∀ t, ¬ReachesStop stop n s t :=
  ⟨fun h n hn t hreach => h t ⟨n, hn, hreach⟩, fun h t ⟨n, hn, hreach⟩ => h n hn t hreach⟩

theorem not_atStop_iff : s.atStop stop = false ↔ ¬(s.fetchAddr = stop ∧ s.pend = .none) := by
  rw [← atStop_iff, Bool.not_eq_true]

theorem reachesStop_zero : ReachesStop stop 0 s t ↔ s = t ∧ t.atStop stop = true := by
  rw [atStop_iff]
  refine ⟨fun ⟨hrun, hstop, hpend, _⟩ => ?_, fun ⟨h, hstop, hpend⟩ => ⟨h ▸ rfl, hstop, hpend, nofun⟩⟩
  cases hrun
  exact ⟨rfl, hstop, hpend⟩

/-- A run goes past its first state only where that is not at the stop and a step leads on. -/
theorem reachesStop_succ : ReachesStop stop (n + 1) s t ↔
    s.atStop stop = false ∧ ∃ u, step s = .next u ∧ ReachesStop stop n u t := by
  constructor
  · intro ⟨hrun, hstop, hpend, hfirst⟩
    obtain ⟨u, hu⟩ | ⟨r, hr⟩ := step_cases s
    · rw [coreRun_succ_next hu] at hrun
      exact ⟨not_atStop_iff.mpr (hfirst 0 (Nat.succ_pos n) s rfl), u, hu, hrun, hstop, hpend, fun m hm v hv =>
        hfirst (m + 1) (Nat.succ_lt_succ hm) v ((coreRun_succ_next hu m).trans hv)⟩
    · rw [coreRun_succ_refused hr] at hrun
      cases hrun
  · intro ⟨hat, u, hu, hrun, hstop, hpend, hfirst⟩
    refine ⟨(coreRun_succ_next hu n).trans hrun, hstop, hpend, fun m hm v hv => ?_⟩
    cases m with
    | zero =>
      cases hv
      exact not_atStop_iff.mp hat
    | succ m => exact hfirst m (Nat.lt_of_succ_lt_succ hm) v ((coreRun_succ_next hu m).symm.trans hv)

theorem arrives_zero : Arrives stop 0 s t ↔ s = t ∧ t.atStop stop = true := by
  simp [Arrives, reachesStop_zero]

theorem arrives_succ : Arrives stop (k + 1) s t ↔
    (s = t ∧ t.atStop stop = true) ∨ s.atStop stop = false ∧ ∃ u, step s = .next u ∧ Arrives stop k u t := by
  constructor
  · intro ⟨n, hn, hreach⟩
    cases n with
    | zero => exact .inl (reachesStop_zero.mp hreach)
    | succ n =>
      obtain ⟨hat, u, hu, hreach⟩ := reachesStop_succ.mp hreach
      exact .inr ⟨hat, u, hu, n, Nat.le_of_succ_le_succ hn, hreach⟩
  · rintro (h | ⟨hat, u, hu, n, hn, hreach⟩)
    · exact ⟨0, Nat.zero_le _, reachesStop_zero.mpr h⟩
    · exact ⟨n + 1, Nat.succ_le_succ hn, reachesStop_succ.mpr ⟨hat, u, hu, hreach⟩⟩

theorem arrives_of_atStop (hat : s.atStop stop = true) : Arrives stop k s t ↔ s = t := by
  cases k with
  | zero => exact arrives_zero.trans (and_iff_left_of_imp fun h => h ▸ hat)
  | succ k => simp [arrives_succ, hat, and_iff_left_of_imp fun h : s = t => h ▸ hat]

theorem not_arrives_zero (hat : s.atStop stop = false) : ¬Arrives stop 0 s t := by
  rw [arrives_zero]
  rintro ⟨rfl, h⟩
  simp [hat] at h

theorem arrives_succ_next (hat : s.atStop stop = false) (h : step s = .next u) :
    Arrives stop (k + 1) s t ↔ Arrives stop k u t := by
  rw [arrives_succ, ← arrives_zero, or_iff_right (not_arrives_zero hat)]
  simp [hat, h]

theorem not_arrives_refused (hat : s.atStop stop = false) (h : step s = .refused r) : ¬Arrives stop k s t := by
  cases k with
  | zero => exact not_arrives_zero hat
  | succ k =>
    rw [arrives_succ, ← arrives_zero, or_iff_right (not_arrives_zero hat)]
    simp [h]

/-! ### How a run by address ends (R421) -/

theorem endByAddress_atStop (hm : s.refused = none) (hat : s.atStop stop = true) :
    endByAddress stop k s = .ended s := by
  rw [endByAddress.eq_def]
  simp only [hm, hat, if_true]

theorem endByAddress_zero (hm : s.refused = none) (hat : s.atStop stop = false) :
    endByAddress stop 0 s = .notEnded := by
  rw [endByAddress.eq_def]
  simp [hm, hat]

theorem endByAddress_succ_next (hat : s.atStop stop = false) (h : step s = .next t) :
    endByAddress stop (k + 1) s = endByAddress stop k t := by
  obtain ⟨hm, -⟩ := step_next h
  rw [endByAddress.eq_def]
  simp [hm, hat, h]

theorem endByAddress_succ_refused (hm : s.refused = none) (hat : s.atStop stop = false) (h : step s = .refused r) :
    endByAddress stop (k + 1) s = .refused { s with refused := some r } r := by
  rw [endByAddress.eq_def]
  simp [hm, hat, h, markRefused_none hm]

/-- The induction of a run by address over its bound: at the stop, at the bound, after a step, and at a refused one. -/
theorem byAddress_induction {P : (bound : Nat) → (s : State) → s.refused = none → Prop} (stop : RegionAddr)
    (atStop : ∀ k s hm, s.atStop stop = true → P k s hm)
    (atBound : ∀ s hm, s.atStop stop = false → P 0 s hm)
    (next : ∀ k s t hm hm', s.atStop stop = false → step s = .next t → P k t hm' → P (k + 1) s hm)
    (refused : ∀ k s r hm, s.atStop stop = false → step s = .refused r → P (k + 1) s hm)
    (bound : Nat) (s : State) (hm : s.refused = none) : P bound s hm := by
  induction bound generalizing s with
  | zero =>
    cases hat : s.atStop stop with
    | true => exact atStop _ s hm hat
    | false => exact atBound s hm hat
  | succ k ih =>
    cases hat : s.atStop stop with
    | true => exact atStop _ s hm hat
    | false =>
      obtain ⟨t, h⟩ | ⟨r, h⟩ := step_cases s
      · obtain ⟨hm', -⟩ := step_next_frame h
        exact next k s t hm hm' hat h (ih t hm')
      · exact refused k s r hm hat h

section
variable {bound : Nat} (hm : s.refused = none)
include hm

theorem endByAddress_ended_iff : endByAddress stop bound s = .ended t ↔ Arrives stop bound s t := by
  induction bound, s, hm using byAddress_induction stop with
  | atStop k s hm hat => simp [endByAddress_atStop hm hat, arrives_of_atStop hat]
  | atBound s hm hat => simp [endByAddress_zero hm hat, not_arrives_zero hat]
  | next k s u hm hm' hat h ih => rw [endByAddress_succ_next hat h, ih, arrives_succ_next hat h]
  | refused k s r hm hat h => simp [endByAddress_succ_refused hm hat h, not_arrives_refused hat h]

theorem endByAddress_notEnded_iff : endByAddress stop bound s = .notEnded ↔
    (∃ t : State, Sys2Proof.core.run bound s = .next t) ∧ ∀ t, ¬Arrives stop bound s t := by
  induction bound, s, hm using byAddress_induction stop with
  | atStop k s hm hat => simp [endByAddress_atStop hm hat, arrives_of_atStop hat]
  | atBound s hm hat => exact iff_of_true (endByAddress_zero hm hat) ⟨⟨s, rfl⟩, fun t => not_arrives_zero hat⟩
  | next k s u hm hm' hat h ih => simp [endByAddress_succ_next hat h, ih, coreRun_succ_next h, arrives_succ_next hat h]
  | refused k s r hm hat h => simp [endByAddress_succ_refused hm hat h, coreRun_succ_refused h]

theorem endByAddress_refused_iff : endByAddress stop bound s = .refused t r ↔
    ∃ n < bound, ∃ u : State, Sys2Proof.core.run n s = .next u ∧ step u = .refused r ∧
      t = { u with refused := some r } ∧ ∀ v, ¬Arrives stop n s v := by
  induction bound, s, hm using byAddress_induction stop with
  | atStop k s hm hat => simp [endByAddress_atStop hm hat, arrives_of_atStop hat]
  | atBound s hm hat => simp [endByAddress_zero hm hat]
  | next k s u hm hm' hat h ih =>
    rw [endByAddress_succ_next hat h, ih, Nat.exists_lt_succ_left]
    simp [coreRun_zero_next, coreRun_succ_next h, h, arrives_succ_next hat h]
  | refused k s q hm hat h =>
    rw [endByAddress_succ_refused hm hat h, Nat.exists_lt_succ_left]
    constructor
    · rintro ⟨⟩
      exact .inl ⟨s, rfl, h, rfl, fun v => not_arrives_zero hat⟩
    · rintro (⟨u, hu, hr, rfl, -⟩ | ⟨m, -, u, hu, -⟩)
      · cases hu
        cases h.symm.trans hr
        rfl
      · cases (coreRun_succ_refused h m).symm.trans hu

end

/-- Settles O60: the three ends of a run by address, with the arrivals written out. -/
theorem runByAddressEndsAtFirstArrival : Obligations.RunByAddressEndsAtFirstArrival := by
  refine fun stop bound s =>
    ⟨fun r => endByAddress_marked, fun hm => ⟨fun t => endByAddress_ended_iff hm, ?_, fun t r => ?_⟩⟩
  · rw [endByAddress_notEnded_iff hm, forall_not_arrives]
  · simp only [endByAddress_refused_iff hm, forall_not_arrives]

end Sys2Proof.Machine
end
